-- ==== Sys2Proof/Word.lean ====
section
/-!
DEFINITION. The fixed-width words of the Kelfam 620: bytes of frames and of the store, the 2 and 4 byte quantities of
payloads, and the 32-bit µs timebase.  Every count, level, angle, distance and time of the manual is a `Nat` (or an
`Int` for the signed gauge limits), because the manual's arithmetic is exact on unbounded integers (00_scope.md 5.3).
-/

namespace Sys2Proof

/-- One byte of a frame, of an image or of the store. -/
abbrev Byte := BitVec 8

/-- A 2-byte payload quantity (R219). -/
abbrev Half := BitVec 16

/-- A 4-byte payload quantity (R219), and a reading of the 32-bit µs timebase (00_scope.md 5.2). -/
abbrev Word := BitVec 32

end Sys2Proof
end

