-- ==== Sys2Proof/Syntax.lean ====
section
/-!
DEFINITION. The commands of the part: one constructor of `Instr` per row of spec/opcode_table.json, with its operands.
A row is an event at the part's pins or clock, or a request of R213's catalogue on one of the two links.
-/

namespace Sys2Proof

/-- The two serial links (chapter 11). -/
inductive LinkId where
  | display
  | service
  deriving DecidableEq, Repr

/-- The two pulse channels, 38 and 39 of the Signal Table. -/
inductive PulseId where
  | pu0
  | pu1
  deriving DecidableEq, Repr

/-- The three ignition lines (R201). -/
inductive IgnLine where
  | acc
  | ign
  | crank
  deriving DecidableEq, Repr

/-- The two lines that WATCH samples (R208). -/
inductive WatchLine where
  | acc
  | ign
  deriving DecidableEq, Repr

/-- An output whose drive can be FLASH: a lamp or handle line L0..L15 (R132), or the chime under a FLASH override
(R144). -/
inductive FlashOut where
  | lamp (l : Fin 16)
  | chime
  deriving DecidableEq, Repr

/-- Everything the part reads from its wiring at one 2 ms sample event (R5, R21, R201, R137): comparator levels of
SW0..SW29, their sense voltages, the converter counts of AN0..AN7, the four handle lines, the three ignition lines and
the current of each lamp output. -/
structure SampleInputs where
  switches : BitVec 30
  sense : Vector (BitVec 12) 30
  analogue : Vector (BitVec 12) 8
  handles : BitVec 4
  acc : Bool
  ign : Bool
  crank : Bool
  currents : Vector (BitVec 12) 16
  deriving DecidableEq, Repr

/-- One breakpoint of a gauge curve as its bytes carry it (R219, section 3). -/
structure RawBreak where
  face : Half
  angle : Half
  deriving DecidableEq, Repr

/-- A gauge configuration record as its 56 bytes carry it (R47, R219): unchecked codes and two's complement limits. -/
structure GaugeRaw where
  source : Byte
  enabled : Byte
  offset : Half
  gain : Half
  loLimit : Half
  hiLimit : Half
  loSet : Half
  hiSet : Half
  sweep : Half
  damping : Byte
  slew : Byte
  divider : Byte
  count : Byte
  breaks : Vector RawBreak 8
  deriving DecidableEq, Repr

/-- The commands: one constructor per row of spec/opcode_table.json, in the table's order. -/
inductive Instr where
  /-- POWER_ON (R209). -/
  | powerOn
  /-- RESTART_RESET (R209). -/
  | restartReset
  /-- SAMPLE_EVENT (R5), with everything sampled at it. -/
  | sampleEvent (inputs : SampleInputs)
  /-- LINE_DECLARATION (R11): the sample that makes the channel's qualification count reach 50. -/
  | lineDeclaration (ch : Fin 40)
  /-- LINE_CLEARING (R12): the sample that makes the channel's clearing or replacing count reach 50. -/
  | lineClearing (ch : Fin 40)
  /-- SIGNAL_SETTLE_EXPIRY (R18). -/
  | signalSettleExpiry
  /-- HANDLE_CHANGE (R21): the sensed sample that changes the filter output of a doorway's H record. -/
  | handleChange (d : Fin 4)
  /-- WATCH_HANDLE_SAMPLE (R22), with the levels of the four handle lines. -/
  | watchHandleSample (levels : BitVec 4)
  /-- HANDLE_WAKE (R22): the WATCH sample that turns a doorway's H output to 1. -/
  | handleWake (d : Fin 4)
  /-- EDGE_SAMPLE (R27), with the two line levels and the timebase reading. -/
  | edgeSample (pu0 pu1 : Bool) (now : Word)
  /-- FILTERED_EDGE (R28): the edge sample that makes a channel's edge filter output rise. -/
  | filteredEdge (p : PulseId) (now : Word)
  /-- ODOMETER_INCREMENT (R36): the pulse that makes the accumulator reach P / 10. -/
  | odometerIncrement
  /-- GAUGE_FRAME (R49), with the timebase reading of the frame. -/
  | gaugeFrame (now : Word)
  /-- HOMING_END (R59): the drive that brings a gauge's homing remaining to 0. -/
  | homingEnd (g : Fin 6)
  /-- FEED_STALE (R57): the 20 ms that bring a fed gauge's feed age to 1000 ms. -/
  | feedStale (g : Fin 6)
  /-- CRANK_HOLD_EXPIRY (R60). -/
  | crankHoldExpiry
  /-- CONTRADICTION_EXPIRY (R79). -/
  | contradictionExpiry (d : Fin 4)
  /-- RESENSE_DONE (R89): the sensed sample that makes a doorway's re-sense count reach 10. -/
  | resenseDone (d : Fin 4)
  /-- WARNING_TICK (R103). -/
  | warningTick
  /-- TRIGGER_ACTIVATION (R104): the evaluation that turns one definition's trigger ON. -/
  | triggerActivation (w : Fin 56)
  /-- FLASH_HALF_TOGGLE (R132). -/
  | flashHalfToggle (o : FlashOut)
  /-- OVERCURRENT_TRIP (R138): the overcurrent sample that makes a lamp's counter reach its trip threshold. -/
  | overcurrentTrip (l : Fin 16)
  /-- RETRY_WAIT_EXPIRY (R138). -/
  | retryWaitExpiry (l : Fin 16)
  /-- RETRY_PROOF (R139): the energised sample that makes a lamp's proof count reach 500. -/
  | retryProof (l : Fin 16)
  /-- OPEN_STATE_CHANGE (R141): the energised sample that makes a lamp's open counter reach 50. -/
  | openStateChange (l : Fin 16)
  /-- CHIME_ONESHOT_END (R143). -/
  | chimeOneshotEnd
  /-- STORE_ATTEMPT_ANSWERED (R184). -/
  | storeAttemptAnswered
  /-- STORE_ATTEMPT_TIMEOUT (R184). -/
  | storeAttemptTimeout
  /-- IGNITION_LEVEL_CHANGE (R201): the sample that makes a line's counter reach 25. -/
  | ignitionLevelChange (line : IgnLine)
  /-- LINE_SETTLE_END (R201). -/
  | lineSettleEnd
  /-- OFF_TIMER_EXPIRY (R203). -/
  | offTimerExpiry
  /-- PARKING_TIMER_LIMIT (R206). -/
  | parkingTimerLimit
  /-- HOLD_CLAIM_EXPIRY (R207). -/
  | holdClaimExpiry
  /-- WATCH_LINE_SAMPLE (R208), with the ACC and IGN levels. -/
  | watchLineSample (acc ign : Bool)
  /-- KEY_WAKE (R208): the WATCH sample that makes a line's watch counter reach 5. -/
  | keyWake (line : WatchLine)
  /-- LINK_WAKE (R208): a frame with correct length and check on a link in WATCH. -/
  | linkWake (link : LinkId)
  /-- SILENCE_TIMER_EXPIRY (R170). -/
  | silenceTimerExpiry
  /-- FRAME_ACCEPTED (R212), with the fields of the accepted frame. -/
  | frameAccepted (link : LinkId) (kind code tag : Byte) (payload : List Byte)
  /-- FRAME_REJECTED (R212), with the bytes that arrive on the line. -/
  | frameRejected (link : LinkId) (bytes : List Byte)
  /-- FRAME_TRANSMITTED (R214). -/
  | frameTransmitted (link : LinkId)
  /-- SIGNALS_PERIOD_EXPIRY (R217). -/
  | signalsPeriodExpiry (link : LinkId)
  /-- STATUS_GET (R215). -/
  | statusGet (link : LinkId) (tag : Byte)
  /-- SIGNALS_GET (R26). -/
  | signalsGet (link : LinkId) (tag : Byte) (first count detail : Byte)
  /-- FEED (R56): gauge index and value per entry. -/
  | feed (link : LinkId) (tag : Byte) (entries : List (Byte × Half))
  /-- GAUGE_SET (R68). -/
  | gaugeSet (link : LinkId) (tag : Byte) (gauge : Byte) (record : GaugeRaw)
  /-- WARN_LIST (R127). -/
  | warnList (link : LinkId) (tag : Byte) (part start : Byte)
  /-- WARN_ACK (R124). -/
  | warnAck (link : LinkId) (tag : Byte) (index : Byte)
  /-- FEED_WARN (R108): definition index and setting per entry. -/
  | feedWarn (link : LinkId) (tag : Byte) (entries : List (Byte × Byte))
  /-- RELEASE_ACK (R86). -/
  | releaseAck (link : LinkId) (tag : Byte) (doorway : Byte)
  /-- DOORS_GET (R97). -/
  | doorsGet (link : LinkId) (tag : Byte)
  /-- LAMP_SET (R135): lamp index and setting per entry. -/
  | lampSet (link : LinkId) (tag : Byte) (entries : List (Byte × Byte))
  /-- LAMP_RESET (R140): one mask position per lamp output. -/
  | lampReset (link : LinkId) (tag : Byte) (mask : Half)
  /-- TRIP_CLEAR (R42). -/
  | tripClear (link : LinkId) (tag : Byte) (trip : Byte)
  /-- ODO_GET (R43). -/
  | odoGet (link : LinkId) (tag : Byte)
  /-- REPORT_SET (R217). -/
  | reportSet (link : LinkId) (tag : Byte) (mask : Byte) (interval : Half) (first count : Byte)
  /-- POWER_HOLD (R207). -/
  | powerHold (link : LinkId) (tag : Byte)
  /-- POWER_FREE (R207). -/
  | powerFree (link : LinkId) (tag : Byte)
  /-- STORE_READ (R189). -/
  | storeRead (link : LinkId) (tag : Byte) (area : Byte) (offset : Half) (count : Byte)
  /-- STORE_WRITE (R190). -/
  | storeWrite (link : LinkId) (tag : Byte) (area : Byte) (offset : Half) (bytes : List Byte)
  /-- CONFIG_PUT (R194). -/
  | configPut (link : LinkId) (tag : Byte) (offset : Half) (bytes : List Byte)
  /-- CONFIG_RELEASE (R195). -/
  | configRelease (link : LinkId) (tag : Byte)
  /-- SERVICE_OPEN (R168). -/
  | serviceOpen (link : LinkId) (tag : Byte)
  /-- SERVICE_CLOSE (R172). -/
  | serviceClose (link : LinkId) (tag : Byte)
  /-- FORCE (R175). -/
  | force (link : LinkId) (tag : Byte) (channel : Byte) (value : Half)
  /-- UNFORCE (R176). -/
  | unforce (link : LinkId) (tag : Byte) (channel : Byte)
  /-- OUTPUT_TEST (R177). -/
  | outputTest (link : LinkId) (tag : Byte) (output setting : Byte)
  /-- OUTPUT_FREE (R178). -/
  | outputFree (link : LinkId) (tag : Byte) (output : Byte)
  /-- SWEEP (R179). -/
  | sweep (link : LinkId) (tag : Byte) (mask : Byte)
  /-- RESTART (R181). -/
  | restart (link : LinkId) (tag : Byte)
  /-- FAULT_READ (R161). -/
  | faultRead (link : LinkId) (tag : Byte) (start filter : Byte)
  /-- FAULT_CLEAR (R162). -/
  | faultClear (link : LinkId) (tag : Byte)
  /-- ODO_SET (R44). -/
  | odoSet (link : LinkId) (tag : Byte) (value : Word)
  /-- CLASS_MAP_SET (R122): the class codes of severities 0..7. -/
  | classMapSet (link : LinkId) (tag : Byte) (classes : Vector Byte 8)
  /-- LOSS_OF_SUPPLY (R185). -/
  | lossOfSupply
  deriving DecidableEq, Repr

end Sys2Proof
end

