-- ==== Sys2Proof/WellFormed.lean ====
section
/-!
DEFINITION. Well-formed commands: the ones the part's pins and links can deliver.  A request must fit one frame's
payload of 0..120 bytes (chapter 11.1), and an event must name a channel or lamp that can have it.  `exec` is total
and says what happens on the other terms too.
-/

namespace Sys2Proof

/-- Payload bytes of one frame (chapter 11.1: "L − 3 bytes, 0..120"). -/
def maxPayload : Nat := 120

/-- Whether the part's wiring or links can deliver the command. -/
def Instr.wellFormed : Instr → Bool
  | .lineDeclaration ch => decide (ch.val < 38)
  | .lineClearing ch => decide (ch.val < 38)
  | .openStateChange l => decide (l.val < 12)
  | .frameAccepted _ _ _ _ payload => decide (payload.length ≤ maxPayload)
  | .feed _ _ entries => decide (1 + 3 * entries.length ≤ maxPayload)
  | .feedWarn _ _ entries => decide (1 + 2 * entries.length ≤ maxPayload)
  | .lampSet _ _ entries => decide (1 + 2 * entries.length ≤ maxPayload)
  | .storeWrite _ _ _ _ bytes => decide (4 + bytes.length ≤ maxPayload)
  | .configPut _ _ _ bytes => decide (3 + bytes.length ≤ maxPayload)
  | .powerOn => true
  | .restartReset => true
  | .sampleEvent _ => true
  | .signalSettleExpiry => true
  | .handleChange _ => true
  | .watchHandleSample _ => true
  | .handleWake _ => true
  | .edgeSample _ _ _ => true
  | .filteredEdge _ _ => true
  | .odometerIncrement => true
  | .gaugeFrame _ => true
  | .homingEnd _ => true
  | .feedStale _ => true
  | .crankHoldExpiry => true
  | .contradictionExpiry _ => true
  | .resenseDone _ => true
  | .warningTick => true
  | .triggerActivation _ => true
  | .flashHalfToggle _ => true
  | .overcurrentTrip _ => true
  | .retryWaitExpiry _ => true
  | .retryProof _ => true
  | .chimeOneshotEnd => true
  | .storeAttemptAnswered => true
  | .storeAttemptTimeout => true
  | .ignitionLevelChange _ => true
  | .lineSettleEnd => true
  | .offTimerExpiry => true
  | .parkingTimerLimit => true
  | .holdClaimExpiry => true
  | .watchLineSample _ _ => true
  | .keyWake _ => true
  | .linkWake _ => true
  | .silenceTimerExpiry => true
  | .frameRejected _ _ => true
  | .frameTransmitted _ => true
  | .signalsPeriodExpiry _ => true
  | .statusGet _ _ => true
  | .signalsGet _ _ _ _ _ => true
  | .gaugeSet _ _ _ _ => true
  | .warnList _ _ _ _ => true
  | .warnAck _ _ _ => true
  | .releaseAck _ _ _ => true
  | .doorsGet _ _ => true
  | .lampReset _ _ _ => true
  | .tripClear _ _ _ => true
  | .odoGet _ _ => true
  | .reportSet _ _ _ _ _ _ => true
  | .powerHold _ _ => true
  | .powerFree _ _ => true
  | .storeRead _ _ _ _ _ => true
  | .configRelease _ _ => true
  | .serviceOpen _ _ => true
  | .serviceClose _ _ => true
  | .force _ _ _ _ => true
  | .unforce _ _ _ => true
  | .outputTest _ _ _ _ => true
  | .outputFree _ _ _ => true
  | .sweep _ _ _ => true
  | .restart _ _ => true
  | .faultRead _ _ _ _ => true
  | .faultClear _ _ => true
  | .odoSet _ _ _ => true
  | .classMapSet _ _ _ => true
  | .lossOfSupply => true

end Sys2Proof
end

