-- ==== Sys2Proof/Decode.lean ====
section
/-!
DEFINITION. The table's word decoder.  No row of spec/opcode_table.json gives bits (98_reader.md: n_rows_with_fixed 0,
n_rows_with_fields 0), so no word spells a command.  The frames of chapter 11, which do carry requests as bytes, are
read in Machine/Operands.lean.
-/

namespace Sys2Proof

/-- The command that a word spells by the table's bits: none, since the table gives no row bits. -/
def decodeTableWord (_nbits _w : Nat) : Option Instr := none

end Sys2Proof
end

