-- ==== Sys2Proof/Config.lean ====
section
/-!
DEFINITION. What the manual leaves open and the model leaves open with it: free values, as constants without a body.
Nothing in Lean can evaluate one, so a theorem that mentions one holds for every value of it.
-/

namespace Sys2Proof.Config

/-- Whether a byte of an undecided page write holds its new value (R184, R185: "each byte of its span either old or
new").  The arguments are the model's draw counter (`State.freeCount`) and the byte's store address.
Log entry 5. -/
opaque tornByteIsNew : Nat → Nat → Bool

/-- The quotient of R29 when its span `T` is 0, which the rule does not state (two captured edges with one timestamp).
The arguments are `k` and the pulse constant.  Log entry 6. -/
opaque zeroSpanSpeed : Nat → Nat → Nat

/-- The quotient of R32 when its span `T` is 0, which the rule does not state.  The argument is `k`.  Log entry 6. -/
opaque zeroSpanRate : Nat → Nat

end Sys2Proof.Config
end

