-- ==== Sys2Proof/Machine/State.lean ====
section
/-!
DEFINITION. The state of the part, block by block as the manual's record tables name it, and the state after a
POWER-ON reset.  Plain data: fixed collections are `Vector`s, lists of varying length are `List`s, the store and the
staging image are canonical `Host.Cell` lists.  Fields that the manual defines as a function of others (substituted,
forced, masked, stale, energised, line demand, record count, at rest, flush done, access in flight) are computed in
Machine/Flags.lean and not stored twice (log entry 2).
-/

namespace Sys2Proof.Machine

/-- Bytes listed by address, strictly rising; an unlisted address reads as the memory's own default byte. -/
abbrev Mem := List Host.Cell

/-! ### Signal Table (chapter 1) -/

/-- Line conditions (R1), in the table's order. -/
inductive LineCond where
  | normal
  | openLine
  | shortGnd
  | shortBat
  | suspended
  | unmonitored
  deriving DecidableEq, Repr

/-- The class of one sample (R10); `none` of the candidate field is `Option.none`. -/
inductive SampleClass where
  | normal
  | openLine
  | shortGnd
  | shortBat
  deriving DecidableEq, Repr

/-- Substitute policy (R2): `substitute v` is the ANALOGUE channels' configured value. -/
inductive Policy where
  | hold
  | forceOff
  | forceOn
  | substitute (v : Nat)
  deriving DecidableEq, Repr

/-- The assignable roles (R16). -/
inductive Role where
  | closed (d : Fin 4)
  | locked (d : Fin 4)
  | edge (d : Fin 4)
  | ramp
  | kneel
  | parkBrake
  | headlamp
  deriving DecidableEq, Repr

/-- The configuration part of a channel (R2).  `count` is the switch filter threshold, the averaging shift or the edge
threshold, by kind. -/
structure ChanCfg where
  activeLow : Bool
  count : Nat
  diag : Bool
  gndMax : Option Nat
  openLo : Option Nat
  openHi : Option Nat
  batMin : Option Nat
  policy : Policy
  role : Option Role
  deriving DecidableEq, Repr

/-- A channel record (R1).  The forced flag and value are the Service Unit's force list (R19). -/
structure Channel where
  raw : Nat
  sense : Nat
  filterCount : Nat
  filterOut : Nat
  seeded : Bool
  value : Nat
  cond : LineCond
  qual : Nat
  cand : Option SampleClass
  cfg : Option ChanCfg
  deriving DecidableEq, Repr

/-- Crank suspension of the monitored channels (R17) and the settle after it (R18), with its elapsed ms. -/
inductive SignalHold where
  | none
  | crank
  | settle (elapsed : Nat)
  deriving DecidableEq, Repr

structure SignalTable where
  chan : Vector Channel 40
  hold : SignalHold
  deriving DecidableEq, Repr

/-- R25: a channel record after every reset. -/
def Channel.init : Channel :=
  { raw := 0, sense := 0, filterCount := 0, filterOut := 0, seeded := false, value := 0, cond := .unmonitored,
    qual := 0, cand := none, cfg := none }

/-- R25: the Signal Table after every reset. -/
def SignalTable.init : SignalTable := { chan := Vector.replicate 40 Channel.init, hold := .none }

/-! ### Speed Unit (chapter 2) -/

/-- Edge filter and edge ring of one pulse channel, and the newest filtered edge since the reset, from which the next
period is formed (R9). -/
structure EdgeCapture where
  count : Nat
  out : Bool
  ring : List Word
  last : Option Word
  deriving DecidableEq, Repr

/-- A scheduled write (R40). -/
inductive ScheduledWrite where
  | none
  | waiting
  | inFlight
  deriving DecidableEq, Repr

/-- A part of the parking flush: the parking write of R41 or the fault part of R159. -/
inductive FlushPart where
  | none
  | waiting
  | inFlight
  | done
  deriving DecidableEq, Repr

/-- The Speed Unit's state (table at the head of chapter 2). -/
structure SpeedUnit where
  pu0 : EdgeCapture
  pu1 : EdgeCapture
  edges : Nat
  estimate : Nat
  rate : Nat
  settled : Bool
  sinceReset : Nat
  moving : Bool
  accumulator : Nat
  working : Nat
  tripA : Nat
  tripB : Nat
  loaded : Bool
  stored : Nat
  nextSlot : Fin 4
  scheduled : ScheduledWrite
  parking : FlushPart
  parkingAgain : Bool
  pulseConst : Option Nat
  deriving DecidableEq, Repr

def EdgeCapture.init : EdgeCapture := { count := 0, out := false, ring := [], last := none }

/-- R45, column POWER-ON.  The odometer status has no value before the end of the ODO read; it starts UNLOADED (DESIGN CHOICE,
log entry 3). -/
def SpeedUnit.init : SpeedUnit :=
  { pu0 := EdgeCapture.init, pu1 := EdgeCapture.init, edges := 0, estimate := 0, rate := 0, settled := false,
    sinceReset := 0, moving := false, accumulator := 0, working := 0, tripA := 0, tripB := 0, loaded := false,
    stored := 0, nextSlot := 0, scheduled := .none, parking := .none, parkingAgain := false, pulseConst := none }

/-! ### Gauge Unit (chapter 3) -/

/-- A gauge's source (R47). -/
inductive GaugeSource where
  | channel (ch : Fin 40)
  | fed
  deriving DecidableEq, Repr

/-- A valid gauge configuration record (R47, R48).  `points` are the curve's breakpoints, face and angle. -/
structure GaugeCfg where
  source : GaugeSource
  offset : Nat
  gain : Nat
  loLimit : Int
  hiLimit : Int
  loSet : Nat
  hiSet : Nat
  points : List (Nat × Nat)
  sweep : Nat
  damping : Nat
  slew : Nat
  divider : Nat
  enabled : Bool
  deriving DecidableEq, Repr

/-- Pointer states (R46), in the table's order. -/
inductive PointerState where
  | unhomed
  | homing
  | tracking
  | held
  | sweep
  | parking
  | parked
  | disabled
  deriving DecidableEq, Repr

inductive SweepPhase where
  | none
  | up
  | down
  deriving DecidableEq, Repr

/-- A gauge record (R46). -/
structure Gauge where
  active : Option GaugeCfg
  staged : Option GaugeCfg
  state : PointerState
  known : Bool
  position : Nat
  target : Nat
  face : Nat
  angle : Nat
  divider : Nat
  homing : Nat
  homingDrive : Nat
  phase : SweepPhase
  fed : Option Nat
  feedAge : Nat
  parkPending : Bool
  deriving DecidableEq, Repr

/-- The crank hold of all six gauges (R46, R60). -/
inductive CrankHold where
  | none
  | crank
  | settle (remaining : Nat)
  deriving DecidableEq, Repr

structure GaugeUnit where
  gauge : Vector Gauge 6
  hold : CrankHold
  deriving DecidableEq, Repr

/-- R72, column POWER-ON. -/
def Gauge.init : Gauge :=
  { active := none, staged := none, state := .unhomed, known := false, position := 0, target := 0, face := 0,
    angle := 0, divider := 0, homing := 0, homingDrive := 0, phase := .none, fed := none, feedAge := 0,
    parkPending := false }

def GaugeUnit.init : GaugeUnit := { gauge := Vector.replicate 6 Gauge.init, hold := .none }

/-! ### Doorway Monitor (chapter 4) -/

/-- Doorway states (R73), in the table's order. -/
inductive DoorState where
  | disabled
  | unconfigured
  | released
  | fault
  | obstructed
  | openDoor
  | closed
  | locked
  deriving DecidableEq, Repr

/-- Emergency-release phases (R73), in the table's order. -/
inductive ReleasePhase where
  | none
  | pulled
  | acked
  | restoredUnacked
  deriving DecidableEq, Repr

/-- A handle-sense record H0..H3 (R21). -/
structure HandleSense where
  raw : Bool
  count : Nat
  out : Bool
  deriving DecidableEq, Repr

/-- A doorway record (R73) with the H record that belongs to it.  `configured` is `none` while not known. -/
structure Doorway where
  configured : Option Bool
  state : DoorState
  phase : ReleasePhase
  sense : HandleSense
  resense : Nat
  timer : Option Nat
  confirmed : Bool
  lineFault : Bool
  deriving DecidableEq, Repr

/-- The Doorway Monitor's state (R73, R74). -/
structure DoorwayMonitor where
  door : Vector Doorway 4
  rampDoor : Option (Fin 4)
  ramp : Bool
  kneel : Bool
  brakeMoving : Bool
  dbCause : Bool
  dbDemand : Bool
  diDemand : Bool
  openMoving : Bool
  deriving DecidableEq, Repr

def HandleSense.init : HandleSense := { raw := false, count := 0, out := false }

/-- R99: a doorway record after a reset, with the release phase the reset keeps. -/
def Doorway.init (phase : ReleasePhase) : Doorway :=
  { configured := none, state := .unconfigured, phase := phase, sense := HandleSense.init, resense := 0,
    timer := none, confirmed := false, lineFault := false }

/-- R99, column POWER-ON, after the evaluation made at the reset (R96: DI on).  The ramp doorway that R99 calls not known is held
as none (DESIGN CHOICE, log entry 3). -/
def DoorwayMonitor.init : DoorwayMonitor :=
  { door := Vector.replicate 4 (Doorway.init .none), rampDoor := none, ramp := false, kneel := false,
    brakeMoving := true, dbCause := false, dbDemand := false, diDemand := true, openMoving := false }

/-! ### Warning Manager (chapter 5) -/

/-- Trigger kinds (R100), in the table's order. -/
inductive TriggerKind where
  | signalAbove
  | signalBelow
  | signalOn
  | lineFault
  | doorState
  | fed
  | builtIn
  deriving DecidableEq, Repr

/-- The chime patterns (R142). -/
inductive ChimePattern where
  | repeatFast
  | repeatSlow
  | double
  | single
  deriving DecidableEq, Repr

/-- Warning classes (R113), highest first. -/
inductive WarnClass where
  | stop
  | check
  | info
  | silent
  deriving DecidableEq, Repr

/-- A warning definition (R100).  `threshold` is the state mask for DOOR_STATE (R219). -/
structure WarnDef where
  inUse : Bool
  kind : TriggerKind
  source : Nat
  threshold : Nat
  hysteresis : Nat
  onDelay : Nat
  severity : Fin 8
  telltale : Option (Fin 12)
  chime : Option ChimePattern
  latched : Bool
  record : Bool
  deriving DecidableEq, Repr

inductive TriggerState where
  | off
  | arming
  | on
  deriving DecidableEq, Repr

/-- A trigger's state and on-delay counter. -/
structure Trigger where
  state : TriggerState
  count : Nat
  deriving DecidableEq, Repr

/-- An entry of the active list (R114), or an item of the waiting queue (R115), whose listing number is 0. -/
structure WarnEntry where
  defn : Fin 56
  cls : WarnClass
  acked : Bool
  present : Bool
  chimed : Bool
  number : Nat
  deriving DecidableEq, Repr

/-- The Warning Manager's state (table at the head of chapter 5).  Its standing chime demand is the one the chime
arbiter holds as last delivered. -/
structure WarningManager where
  defs : Vector WarnDef 56
  trigger : Vector Trigger 56
  fedFlag : Vector Bool 48
  marker : Vector Bool 40
  map : Vector WarnClass 8
  active : List WarnEntry
  queue : List WarnEntry
  nextNumber : Nat
  presented : Option (Fin 56)
  telltale : Vector Bool 12
  deriving DecidableEq, Repr

/-- A definition that is not in use (R100, R129: none until the end of the preload). -/
def WarnDef.unused : WarnDef :=
  { inUse := false, kind := .fed, source := 0, threshold := 0, hysteresis := 0, onDelay := 0, severity := 0,
    telltale := none, chime := none, latched := false, record := false }

/-- R113: the default severity-to-class map, severities 0..7. -/
def WarnClass.defaultMap : Vector WarnClass 8 := #v[.silent, .info, .info, .info, .check, .check, .stop, .stop]

/-- R129. -/
def WarningManager.init : WarningManager :=
  { defs := Vector.replicate 56 WarnDef.unused, trigger := Vector.replicate 56 { state := .off, count := 0 },
    fedFlag := Vector.replicate 48 false, marker := Vector.replicate 40 false, map := WarnClass.defaultMap,
    active := [], queue := [], nextNumber := 0, presented := none, telltale := Vector.replicate 12 false }

/-! ### Output Unit (chapter 6) -/

/-- The function of L0..L11 (R130). -/
inductive LampFn where
  | absent
  | telltale
  | door (d : Fin 4)
  | off
  deriving DecidableEq, Repr

/-- A drive or a combined demand (R130). -/
inductive Drive where
  | off
  | on
  | flash
  deriving DecidableEq, Repr

/-- An override setting (R165). -/
inductive Setting where
  | on
  | off
  | flash
  deriving DecidableEq, Repr

/-- Overcurrent protection (R130). -/
inductive Protection where
  | normal
  | shutdown
  | retry
  deriving DecidableEq, Repr

/-- Position in the 2 Hz flash: which half, and its elapsed ms. -/
structure FlashHalf where
  driven : Bool
  elapsed : Nat
  deriving DecidableEq, Repr

/-- A lamp record (R130), with the lamp's configuration items of R131.  The override is the Service Unit's list. -/
structure Lamp where
  fn : LampFn
  warnDemand : Bool
  displayDemand : Bool
  drive : Drive
  half : FlashHalf
  protection : Protection
  ocCount : Nat
  retry : Nat
  wait : Option Nat
  proof : Nat
  current : Nat
  openState : Bool
  openCount : Nat
  tripAt : Nat
  ocLevel : Nat
  openLevel : Nat
  deriving DecidableEq, Repr

/-- What the chime is playing (R142). -/
inductive Playing where
  | none
  | standing (p : ChimePattern) (elapsed : Nat)
  | oneshot (p : ChimePattern) (remaining : Nat)
  deriving DecidableEq, Repr

/-- The chime arbiter (R142), and the flash of a FLASH override (R144). -/
structure Chime where
  playing : Playing
  pendingShot : Option ChimePattern
  warnStanding : Option ChimePattern
  doorStanding : Bool
  half : FlashHalf
  deriving DecidableEq, Repr

/-- The Output Unit's state: lamp records, duty level (`night`), night duty in ‰, chime, and the three outputs. -/
structure OutputUnit where
  lamp : Vector Lamp 16
  night : Bool
  nightDuty : Nat
  chime : Chime
  dbOut : Bool
  diOut : Bool
  holdOut : Bool
  deriving DecidableEq, Repr

/-- R147, with R131's built-in values. -/
def Lamp.init : Lamp :=
  { fn := .absent, warnDemand := false, displayDemand := false, drive := .off, half := { driven := true, elapsed := 0 },
    protection := .normal, ocCount := 0, retry := 0, wait := none, proof := 0, current := 0, openState := false,
    openCount := 0, tripAt := 10, ocLevel := 3000, openLevel := 0 }

def Chime.init : Chime :=
  { playing := .none, pendingShot := none, warnStanding := none, doorStanding := false,
    half := { driven := true, elapsed := 0 } }

/-- R147: every output off. -/
def OutputUnit.init : OutputUnit :=
  { lamp := Vector.replicate 16 Lamp.init, night := false, nightDuty := 300, chime := Chime.init, dbOut := false,
    diOut := false, holdOut := false }

/-! ### Fault Memory (chapter 7) -/

/-- Fault source kinds (R149).  The manual says six and names five, LAMP twice: the model takes the five, numbered 0 to 4 in
the order of their first mention (DEDUCED, log entry 9). -/
inductive FaultSource where
  | channel
  | lamp
  | doorway
  | store
  | warning
  deriving DecidableEq, Repr

/-- Fault kinds (R149). -/
inductive FaultKind where
  | openLine
  | shortGnd
  | shortBat
  | overcurrent
  | lampFail
  | contradiction
  | raised
  deriving DecidableEq, Repr

/-- A fault code (R149). -/
structure FaultCode where
  source : FaultSource
  index : Nat
  kind : FaultKind
  deriving DecidableEq, Repr

/-- Freeze data and odometer of a notice (R148); the power mode as its byte of R219. -/
structure Freeze where
  odometer : Nat
  speed : Nat
  supply : Nat
  mode : Nat
  deriving DecidableEq, Repr

/-- A fault record (R148) less its dirty mark.  The power mode and the doorway context are kept as the bytes R219
stores, since a loaded record may hold any (R156 does not test them). -/
structure FaultRec where
  code : FaultCode
  active : Bool
  count : Nat
  aging : Nat
  firstOdo : Nat
  lastOdo : Nat
  speed : Nat
  supply : Nat
  mode : Nat
  context : Option (Nat × Nat)
  deriving DecidableEq, Repr

/-- An item of the list of notices held until the mirror loads (R155). -/
structure HeldNotice where
  code : FaultCode
  cleared : Bool
  freeze : Freeze
  context : Option (Nat × Nat)
  deriving DecidableEq, Repr

/-- Record writer items (R157). -/
inductive WriterItem where
  | odo
  | header
  | position (p : Fin 32)
  deriving DecidableEq, Repr

/-- The Fault Memory's state (R148, R150, R155, R157, R159).  `loading` is yes from a POWER-ON to the end of the FAULTS
read; `loaded` is the mirror status. -/
structure FaultMemory where
  record : Vector (Option FaultRec) 32
  dirty : Vector Bool 32
  overflow : Bool
  loading : Bool
  loaded : Bool
  lastChange : Option (Fin 32 × FaultCode)
  headerDirty : Bool
  held : List HeldNotice
  items : List WriterItem
  part : FlushPart
  partItems : List WriterItem
  partAgain : Bool
  deriving DecidableEq, Repr

/-- R160, column POWER-ON.  The table gives the overflow indicator and the mirror status as "from the load" alone: that until
the load the indicator is clear and the status UNLOADED is the model's choice (DESIGN CHOICE, log entry 3). -/
def FaultMemory.init : FaultMemory :=
  { record := Vector.replicate 32 none, dirty := Vector.replicate 32 false, overflow := false, loading := true,
    loaded := false, lastChange := none, headerDirty := false, held := [], items := [], part := .none,
    partItems := [], partAgain := false }

/-! ### Service Unit (chapter 8) -/

/-- Why service mode last closed (R165). -/
inductive CloseCause where
  | none
  | request
  | silence
  | speed
  | parkBrake
  | powerMode
  deriving DecidableEq, Repr

/-- An output that an override can stand on (R165). -/
inductive OutputId where
  | lamp (l : Fin 16)
  | db
  | di
  | chime
  deriving DecidableEq, Repr

inductive SweepRecord where
  | notNamed
  | inSweep
  | completed
  | aborted
  deriving DecidableEq, Repr

inductive SweepResult where
  | none
  | completed
  | aborted
  deriving DecidableEq, Repr

/-- The Service Unit's state (R165). -/
structure ServiceUnit where
  isOpen : Bool
  silence : Option Nat
  lastClose : CloseCause
  forces : List (Fin 40 × Nat)
  overrides : List (OutputId × Setting)
  sweepRunning : Bool
  sweep : Vector SweepRecord 6
  sweepResult : SweepResult
  deriving DecidableEq, Repr

/-- R166. -/
def ServiceUnit.init : ServiceUnit :=
  { isOpen := false, silence := none, lastClose := .none, forces := [], overrides := [], sweepRunning := false,
    sweep := Vector.replicate 6 .notNamed, sweepResult := .none }

/-! ### Store Controller (chapter 9) -/

/-- The five areas (R183). -/
inductive Area where
  | ident
  | config
  | odo
  | faults
  | user
  deriving DecidableEq, Repr

/-- The five requesters (R186), highest rank first. -/
inductive Requester where
  | preload
  | parkFlush
  | record
  | service
  | display
  deriving DecidableEq, Repr

/-- What an access is for: its requester follows from it (`Purpose.requester`). -/
inductive Purpose where
  | preOdo
  | preFaults
  | preConfig
  | parkOdo
  | parkItem (item : WriterItem)
  | record (item : WriterItem)
  | linkRead (link : LinkId) (area : Area) (offset count : Nat)
  | linkWrite (link : LinkId) (area : Area) (offset : Nat) (bytes : List Byte) (neededMode : Bool)
  | odoSet
  | faultClear
  | release (link : LinkId) (neededMode : Bool)
  deriving DecidableEq, Repr

/-- The access in flight (R184): its span, the bytes of a write, the bytes of the steps that succeeded (`done`), the
bytes read so far, the unanswered attempts of the step under way, and the odometer value a slot write carries. -/
structure Access where
  purpose : Purpose
  isWrite : Bool
  area : Area
  offset : Nat
  total : Nat
  bytes : List Byte
  done : Nat
  got : List Byte
  attempts : Nat
  odometer : Nat
  deriving DecidableEq, Repr

inductive CfgState where
  | preloading
  | ready
  | configHold
  deriving DecidableEq, Repr

inductive CfgSource where
  | store
  | unsaved
  deriving DecidableEq, Repr

/-- The preload result (R192). -/
inductive PreloadResult where
  | valid
  | storeFault
  | failed (sect item : Nat) (index : Option Nat)
  deriving DecidableEq, Repr

/-- The one pending access of each requester (R186). -/
structure PendingAccesses where
  preload : Option Purpose
  parkFlush : Option Purpose
  record : Option Purpose
  service : Option Purpose
  display : Option Purpose
  deriving DecidableEq, Repr

/-- The Store Controller's state (R186, R188, R191, R192, R194). -/
structure StoreController where
  inFlight : Option Access
  waiting : PendingAccesses
  faultStands : Bool
  lastFailure : Option (Requester × Area × Nat)
  cfgState : CfgState
  source : Option CfgSource
  staging : Mem
  releasing : Bool
  result : Option PreloadResult
  deriving DecidableEq, Repr

def PendingAccesses.init : PendingAccesses :=
  { preload := none, parkFlush := none, record := none, service := none, display := none }

/-- R199, column POWER-ON. -/
def StoreController.init : StoreController :=
  { inFlight := none, waiting := PendingAccesses.init, faultStands := false, lastFailure := none,
    cfgState := .preloading, source := none, staging := [], releasing := false, result := none }

/-! ### Power Controller (chapter 10) -/

/-- Power modes (R200), in the table's order. -/
inductive PowerMode where
  | starting
  | acc
  | run
  | crank
  | parking
  | watch
  deriving DecidableEq, Repr

inductive SupplyClass where
  | none
  | sag
  | low
  | normal
  | high
  deriving DecidableEq, Repr

inductive ResetKind where
  | powerOn
  | wake
  | restart
  deriving DecidableEq, Repr

inductive WakeCause where
  | none
  | key
  | handle
  | link
  deriving DecidableEq, Repr

/-- A filtered ignition line (R201). -/
structure LineFilter where
  level : Bool
  count : Nat
  deriving DecidableEq, Repr

/-- The wake enables (R210). -/
structure WakeEnables where
  key : Bool
  handle : Bool
  link : Bool
  deriving DecidableEq, Repr

/-- The Power Controller's state (R200). -/
structure PowerController where
  mode : PowerMode
  acc : LineFilter
  ign : LineFilter
  crank : LineFilter
  lineSettle : Option Nat
  supply : Nat
  supplyClass : SupplyClass
  parkBrake : Nat
  offTimer : Option Nat
  parkTimer : Option Nat
  claim : Option Nat
  enables : Option WakeEnables
  watchAcc : Nat
  watchIgn : Nat
  holdDemand : Bool
  lastReset : ResetKind
  lastWake : WakeCause
  deriving DecidableEq, Repr

def LineFilter.init : LineFilter := { level := false, count := 0 }

/-- R209: the controller's own state after each reset; `lineSettle` is running from 0. -/
def PowerController.init (kind : ResetKind) (wake : WakeCause) : PowerController :=
  { mode := .starting, acc := LineFilter.init, ign := LineFilter.init, crank := LineFilter.init,
    lineSettle := some 0, supply := 0, supplyClass := .none, parkBrake := 0, offTimer := none, parkTimer := none,
    claim := none, enables := none, watchAcc := 0, watchIgn := 0, holdDemand := true, lastReset := kind,
    lastWake := wake }

/-! ### Link Interface (chapter 11) -/

/-- Report topics (R216), by rank. -/
inductive Topic where
  | warnings
  | doors
  | power
  | service
  | store
  | faults
  | gauges
  | signals
  deriving DecidableEq, Repr

/-- A frame that the part sends: its kind, code, tag and payload.  `restarts` marks a reply whose transmission a
RESTART follows (R181, R196). -/
structure Frame where
  kind : Byte
  code : Byte
  tag : Byte
  payload : List Byte
  restarts : Bool
  deriving DecidableEq, Repr

/-- The SIGNALS window (R217). -/
structure SignalsWindow where
  interval : Nat
  first : Nat
  count : Nat
  deriving DecidableEq, Repr

/-- A link record (table at the head of chapter 11).  The receiver's state is its buffer: the sync taken and the bytes
after it, empty in HUNT (`rxMode`).  `period` is the SIGNALS period timer's elapsed ms. -/
structure Link where
  rx : List Byte
  inFlight : Option (Byte × Byte)
  replies : List Frame
  tx : Option Frame
  enabled : Vector Bool 8
  flag : Vector Bool 8
  window : Option SignalsWindow
  period : Option Nat
  seq : Byte
  deriving DecidableEq, Repr

structure Links where
  display : Link
  service : Link
  deriving DecidableEq, Repr

/-- R218. -/
def Link.init : Link :=
  { rx := [], inFlight := none, replies := [], tx := none, enabled := Vector.replicate 8 false,
    flag := Vector.replicate 8 false, window := none, period := none, seq := 0 }

def Links.init : Links := { display := Link.init, service := Link.init }

/-! ### The whole part -/

/-- The state of the part.  `powered` says whether supply is applied, `timebase` is the last reading of the free-running
µs timebase, `eeprom` is the content of the store (an unlisted address reads 0FFH), `freeCount` is the MODEL's own
counter of free-value draws, and `pending` is the queue of commands that wait, first in, first out. -/
structure State where
  powered : Bool
  timebase : Word
  freeCount : Nat
  eeprom : Mem
  sig : SignalTable
  speed : SpeedUnit
  gauges : GaugeUnit
  doors : DoorwayMonitor
  warn : WarningManager
  out : OutputUnit
  fault : FaultMemory
  svc : ServiceUnit
  store : StoreController
  power : PowerController
  links : Links
  pending : List Instr
  deriving DecidableEq, Repr

/-- Why the machine stops with a fault. -/
inductive Fault where
  /-- Raised by STORE_ATTEMPT_ANSWERED and STORE_ATTEMPT_TIMEOUT when the access in flight names bytes outside its area
  (R183: "no access reaches them").  No access the part itself starts does.  Safe: the machine stops. -/
  | storeAddress
  deriving DecidableEq, Repr

/-- Why a command is refused. -/
inductive Refusal where
  /-- Raised by `exec` alone, for a command that has no meaning yet.  Safe.  No arm of `exec` answers it. -/
  | notModelled (mnemonic : String)
  deriving DecidableEq, Repr

/-- The first access of a POWER-ON preload, the 64-byte ODO read (R192), as it starts. -/
def Access.preOdo : Access :=
  { purpose := .preOdo, isWrite := false, area := .odo, offset := 0, total := 64, bytes := [], done := 0, got := [],
    attempts := 0, odometer := 0 }

/-- The part right after a POWER-ON reset over the store content `eeprom`: every block in the POWER-ON column of its
reset table, after the deliveries made at the reset (R147: DI on, power-hold on) and with the preload's first read in
flight (R192, R209). -/
def State.poweredOn (eeprom : Mem) : State :=
  { powered := true, timebase := 0, freeCount := 0, eeprom := eeprom, sig := SignalTable.init,
    speed := SpeedUnit.init, gauges := GaugeUnit.init, doors := DoorwayMonitor.init, warn := WarningManager.init,
    out := { OutputUnit.init with diOut := true, holdOut := true }, fault := FaultMemory.init,
    svc := ServiceUnit.init, store := { StoreController.init with inFlight := some Access.preOdo },
    power := PowerController.init .powerOn .none, links := Links.init, pending := [] }

/-- The machine right after reset: POWER-ON over an erased store (R183: "An erased byte reads 0FFH"; log entry 4). -/
def State.reset : State := State.poweredOn []

end Sys2Proof.Machine
end

