-- ==== Sys2Proof/Machine/Bytes.lean ====
section
/-!
DEFINITION. Bytes of payloads and images (chapter 11): multi-byte quantities most significant byte first, checks as
8-bit sums, and the codes of enumerated items, numbered from 0 in the order of the owning record table (R219).
-/

namespace Sys2Proof.Machine

/-- One byte of a quantity. -/
def byte1 (n : Nat) : Byte := BitVec.ofNat 8 n

/-- A 1-byte quantity. -/
def put1 (n : Nat) : List Byte := [byte1 n]

/-- A 2-byte quantity, most significant byte first. -/
def put2 (n : Nat) : List Byte := [byte1 (n / 256), byte1 n]

/-- A 4-byte quantity, most significant byte first. -/
def put4 (n : Nat) : List Byte := [byte1 (n / 16777216), byte1 (n / 65536), byte1 (n / 256), byte1 n]

/-- A yes or no (R219). -/
def putBool (b : Bool) : List Byte := put1 (if b then 1 else 0)

/-- An index, or 0FFH for none (R219). -/
def putIndex (i : Option Nat) : List Byte := put1 (i.getD 255)

/-- The number that bytes hold, most significant byte first. -/
def bytesNat (bs : List Byte) : Nat := bs.foldl (fun acc b => acc * 256 + b.toNat) 0

/-- The 8-bit sum of bytes. -/
def sum8 (bs : List Byte) : Nat := (bs.foldl (fun acc b => acc + b.toNat) 0) % 256

/-- The check byte that makes the 8-bit sum 0. -/
def checkByte (bs : List Byte) : Byte := byte1 (256 - sum8 bs)

/-- A field of `width` bits from a number, starting at bit `low`. -/
def bitField (n low width : Nat) : Nat := (n / 2 ^ low) % 2 ^ width

/-- Position `i` of a mask (R219). -/
def maskBit (n i : Nat) : Bool := n / 2 ^ i % 2 == 1

/-- The mask that holds the given positions. -/
def maskOf (bits : List Bool) : Nat := bits.foldr (fun b acc => 2 * acc + if b then 1 else 0) 0

/-- A 16-bit two's complement value (R219). -/
def signed16 (n : Nat) : Int := if n < 32768 then (n : Int) else (n : Int) - 65536

/-- A frame on the line (chapter 11.1): sync, length, kind, code, tag, payload, check. -/
def Frame.bytes (f : Frame) : List Byte :=
  let body := put1 (f.payload.length + 3) ++ [f.kind, f.code, f.tag] ++ f.payload
  0x7E#8 :: (body ++ [checkByte body])

/-! ### Codes of enumerated items -/

def LineCond.code : LineCond → Nat
  | .normal => 0
  | .openLine => 1
  | .shortGnd => 2
  | .shortBat => 3
  | .suspended => 4
  | .unmonitored => 5

/-- The candidate field: none, NORMAL, OPEN, SHORT_GND, SHORT_BAT (R1). -/
def candCode : Option SampleClass → Nat
  | none => 0
  | some .normal => 1
  | some .openLine => 2
  | some .shortGnd => 3
  | some .shortBat => 4

def PointerState.code : PointerState → Nat
  | .unhomed => 0
  | .homing => 1
  | .tracking => 2
  | .held => 3
  | .sweep => 4
  | .parking => 5
  | .parked => 6
  | .disabled => 7

def SweepPhase.code : SweepPhase → Nat
  | .none => 0
  | .up => 1
  | .down => 2

def DoorState.code : DoorState → Nat
  | .disabled => 0
  | .unconfigured => 1
  | .released => 2
  | .fault => 3
  | .obstructed => 4
  | .openDoor => 5
  | .closed => 6
  | .locked => 7

def ReleasePhase.code : ReleasePhase → Nat
  | .none => 0
  | .pulled => 1
  | .acked => 2
  | .restoredUnacked => 3

def WarnClass.code : WarnClass → Nat
  | .stop => 0
  | .check => 1
  | .info => 2
  | .silent => 3

def WarnClass.ofCode : Nat → Option WarnClass
  | 0 => some .stop
  | 1 => some .check
  | 2 => some .info
  | 3 => some .silent
  | _ => none

/-- A chime pattern as R100 lists it: absent, SINGLE, DOUBLE, REPEAT_SLOW.  REPEAT_FAST is no definition's pattern. -/
def warnChimeCode : Option ChimePattern → Nat
  | none => 0
  | some .single => 1
  | some .double => 2
  | some .repeatSlow => 3
  | some .repeatFast => 4

/-- A chime pattern in the output snapshot (R219): the pattern's rank order, 0FFH for none. -/
def ChimePattern.code : ChimePattern → Nat
  | .repeatFast => 0
  | .repeatSlow => 1
  | .double => 2
  | .single => 3

/-- A lamp function (R219): 0 absent, 1 TELLTALE, 2 + d DOOR(d), 6 OFF. -/
def LampFn.code : LampFn → Nat
  | .absent => 0
  | .telltale => 1
  | .door d => 2 + d.val
  | .off => 6

def Drive.code : Drive → Nat
  | .off => 0
  | .on => 1
  | .flash => 2

/-- A setting in the override list: ON, OFF, FLASH (R165). -/
def Setting.code : Setting → Nat
  | .on => 0
  | .off => 1
  | .flash => 2

def Setting.ofCode : Nat → Option Setting
  | 0 => some .on
  | 1 => some .off
  | 2 => some .flash
  | _ => none

/-- The override of an output record: none, ON, OFF, FLASH (R130). -/
def overrideCode : Option Setting → Nat
  | none => 0
  | some .on => 1
  | some .off => 2
  | some .flash => 3

def Protection.code : Protection → Nat
  | .normal => 0
  | .shutdown => 1
  | .retry => 2

/-- An output of the override list (R165): L0..L15, DB, DI, CHIME. -/
def OutputId.code : OutputId → Nat
  | .lamp l => l.val
  | .db => 16
  | .di => 17
  | .chime => 18

def OutputId.ofCode (n : Nat) : Option OutputId :=
  if h : n < 16 then some (.lamp ⟨n, h⟩)
  else if n = 16 then some .db
  else if n = 17 then some .di
  else if n = 18 then some .chime
  else none

def FaultSource.code : FaultSource → Nat
  | .channel => 0
  | .lamp => 1
  | .doorway => 2
  | .store => 3
  | .warning => 4

def FaultSource.ofCode : Nat → Option FaultSource
  | 0 => some .channel
  | 1 => some .lamp
  | 2 => some .doorway
  | 3 => some .store
  | 4 => some .warning
  | _ => none

def FaultKind.code : FaultKind → Nat
  | .openLine => 0
  | .shortGnd => 1
  | .shortBat => 2
  | .overcurrent => 3
  | .lampFail => 4
  | .contradiction => 5
  | .raised => 6

def FaultKind.ofCode : Nat → Option FaultKind
  | 0 => some .openLine
  | 1 => some .shortGnd
  | 2 => some .shortBat
  | 3 => some .overcurrent
  | 4 => some .lampFail
  | 5 => some .contradiction
  | 6 => some .raised
  | _ => none

def CloseCause.code : CloseCause → Nat
  | .none => 0
  | .request => 1
  | .silence => 2
  | .speed => 3
  | .parkBrake => 4
  | .powerMode => 5

def SweepRecord.code : SweepRecord → Nat
  | .notNamed => 0
  | .inSweep => 1
  | .completed => 2
  | .aborted => 3

def SweepResult.code : SweepResult → Nat
  | .none => 0
  | .completed => 1
  | .aborted => 2

def Area.ofCode : Nat → Option Area
  | 0 => some .ident
  | 1 => some .config
  | 2 => some .odo
  | 3 => some .faults
  | 4 => some .user
  | _ => none

def Area.code : Area → Nat
  | .ident => 0
  | .config => 1
  | .odo => 2
  | .faults => 3
  | .user => 4

def Requester.code : Requester → Nat
  | .preload => 0
  | .parkFlush => 1
  | .record => 2
  | .service => 3
  | .display => 4

def CfgState.code : CfgState → Nat
  | .preloading => 0
  | .ready => 1
  | .configHold => 2

def CfgSource.code : CfgSource → Nat
  | .store => 0
  | .unsaved => 1

def PowerMode.code : PowerMode → Nat
  | .starting => 0
  | .acc => 1
  | .run => 2
  | .crank => 3
  | .parking => 4
  | .watch => 5

def SupplyClass.code : SupplyClass → Nat
  | .none => 0
  | .sag => 1
  | .low => 2
  | .normal => 3
  | .high => 4

def ResetKind.code : ResetKind → Nat
  | .powerOn => 0
  | .wake => 1
  | .restart => 2

def WakeCause.code : WakeCause → Nat
  | .none => 0
  | .key => 1
  | .handle => 2
  | .link => 3

/-- An "on, off" item in its table's order (R201): on 0, off 1.  Log entry 9. -/
def onOffCode (on : Bool) : Nat := if on then 0 else 1

/-- An "off, on" item in its table's order (R74): off 0, on 1.  Log entry 9. -/
def offOnCode (on : Bool) : Nat := if on then 1 else 0

/-- A "set, clear" item in its table's order (the moving flag of chapter 2, the overflow indicator of R150): set 0,
clear 1.  Log entry 9. -/
def setClearCode (set : Bool) : Nat := if set then 0 else 1

/-- An "enabled or disabled" item in its table's order (R200): enabled 0, disabled 1.  Log entry 9. -/
def enableCode (enabled : Bool) : Nat := if enabled then 0 else 1

/-! ### Topics and requesters -/

/-- A topic's rank position, 0 for rank 1 (R216, R217). -/
def Topic.index : Topic → Fin 8
  | .warnings => 0
  | .doors => 1
  | .power => 2
  | .service => 3
  | .store => 4
  | .faults => 5
  | .gauges => 6
  | .signals => 7

/-- The topics by rank (R216). -/
def Topic.all : List Topic := [.warnings, .doors, .power, .service, .store, .faults, .gauges, .signals]

/-- A topic's report code (R216). -/
def Topic.reportCode (t : Topic) : Byte := byte1 (0x60 + t.index.val)

def linkRequester : LinkId → Requester
  | .display => .display
  | .service => .service

def otherLink : LinkId → LinkId
  | .display => .service
  | .service => .display

/-- The requester that carries an access (R186). -/
def Purpose.requester : Purpose → Requester
  | .preOdo => .preload
  | .preFaults => .preload
  | .preConfig => .preload
  | .parkOdo => .parkFlush
  | .parkItem _ => .parkFlush
  | .record _ => .record
  | .linkRead l _ _ _ => linkRequester l
  | .linkWrite l _ _ _ _ => linkRequester l
  | .odoSet => .service
  | .faultClear => .service
  | .release l _ => linkRequester l

end Sys2Proof.Machine
end

