-- ==== Sys2Proof/Machine/Memory.lean ====
section
/-!
DEFINITION. Addressed bytes: the store of 8192 bytes, where an unlisted address reads 0FFH (R183), and the staging
image of 4096 bytes, where an unlisted offset reads 0 (R199).  A `Mem` lists addresses strictly rising and no byte equal
to what an unlisted address reads, so equal contents are equal data.
-/

namespace Sys2Proof.Machine

/-- The byte at an address, `dflt` where nothing is listed. -/
def Mem.read (dflt : Byte) : Mem → Nat → Byte
  | [], _ => dflt
  | (b, v) :: m, a => if a = b then v else if a < b then dflt else Mem.read dflt m a

/-- A list with one cell put at its head unless it holds the default byte. -/
def Mem.consCell (dflt : Byte) (a : Nat) (v : Byte) (m : Mem) : Mem := if v = dflt then m else (a, v) :: m

/-- One byte written, in canonical form. -/
def Mem.write (dflt : Byte) : Mem → Nat → Byte → Mem
  | [], a, v => Mem.consCell dflt a v []
  | (b, w) :: m, a, v =>
    if a < b then Mem.consCell dflt a v ((b, w) :: m)
    else if a = b then Mem.consCell dflt a v m
    else (b, w) :: Mem.write dflt m a v

/-- Bytes written at ascending addresses. -/
def Mem.writeBytes (dflt : Byte) : Mem → Nat → List Byte → Mem
  | m, _, [] => m
  | m, a, v :: vs => Mem.writeBytes dflt (Mem.write dflt m a v) (a + 1) vs

/-- `n` bytes read at ascending addresses. -/
def Mem.readBytes (dflt : Byte) (m : Mem) (a : Nat) : Nat → List Byte
  | 0 => []
  | n + 1 => Mem.read dflt m a :: Mem.readBytes dflt m (a + 1) n

/-- A memory that holds the given bytes from address `a` on. -/
def Mem.ofBytes (dflt : Byte) : Nat → List Byte → Mem
  | _, [] => []
  | a, v :: vs => Mem.consCell dflt a v (Mem.ofBytes dflt (a + 1) vs)

/-- The canonical form, below a bound on the first address. -/
def Mem.wfFrom (dflt : Byte) (low : Nat) : Mem → Bool
  | [] => true
  | (a, v) :: m => decide (low ≤ a) && decide (v ≠ dflt) && Mem.wfFrom dflt (a + 1) m

/-- The canonical form: addresses strictly rising, no listed byte equal to the default. -/
def Mem.wf (dflt : Byte) (m : Mem) : Bool := Mem.wfFrom dflt 0 m

/-- What an erased store byte reads (R183). -/
def erased : Byte := 0xFF#8

/-- A byte of the store. -/
def storeByte (m : Mem) (a : Nat) : Byte := Mem.read erased m a

/-- A byte of the staging image. -/
def stagingByte (m : Mem) (a : Nat) : Byte := Mem.read 0#8 m a

/-- The base address of an area (R183). -/
def Area.base : Area → Nat
  | .ident => 0
  | .config => 256
  | .odo => 4352
  | .faults => 4416
  | .user => 6016

/-- The size of an area in bytes (R183). -/
def Area.size : Area → Nat
  | .ident => 256
  | .config => 4096
  | .odo => 64
  | .faults => 1600
  | .user => 1024

/-- Bytes of one store page (00_scope.md, "Store"). -/
def pageSize : Nat := 32

/-- Bytes of a step that starts at store address `a` with `left` bytes of its span to go: those in one page (R184). -/
def stepLength (a left : Nat) : Nat := min (pageSize - a % pageSize) left

end Sys2Proof.Machine
end

