-- ==== Sys2Proof/Machine/Image.lean ====
section
/-!
DEFINITION. The configuration image: its layout (R219), its checks in order (R193, and R24, R45, R48, R75, R102, R131,
R210 per section), and the configuration it gives each block.  An image is read through a function from its offsets to
bytes; none is stored.
-/

namespace Sys2Proof.Machine

/-- A failing check (R193): section, item, and index where the section has one. -/
structure ImageFailure where
  sect : Nat
  item : Nat
  index : Option Nat
  deriving DecidableEq, Repr

/-- The first failing entry of a list of checks. -/
def firstFailure (checks : List (Bool × ImageFailure)) : Option ImageFailure :=
  (checks.find? (fun c => c.1)).map (fun c => c.2)

/-- One item of a section checked over its records in index order. -/
def itemOver (sect item n : Nat) (fails : Nat → Bool) : List (Bool × ImageFailure) :=
  (List.range n).map (fun i => (fails i, { sect := sect, item := item, index := some i }))

/-- One item of a section without an index. -/
def itemOnce (sect item : Nat) (fails : Bool) : List (Bool × ImageFailure) :=
  [(fails, { sect := sect, item := item, index := none })]

def img1 (img : Nat → Byte) (o : Nat) : Nat := (img o).toNat
def img2 (img : Nat → Byte) (o : Nat) : Nat := img1 img o * 256 + img1 img (o + 1)
def img4 (img : Nat → Byte) (o : Nat) : Nat := img2 img o * 65536 + img2 img (o + 2)

/-- A 16-bit window limit, absent at 0FFFFH (R219). -/
def imgLimit (img : Nat → Byte) (o : Nat) : Option Nat := if img2 img o = 65535 then none else some (img2 img o)

/-! ### Header and directory (R193 items of section 0) -/

def imageSignature : Nat := 0x4B46

/-- The section number of directory entry `e` (R219: one per 4-bit half, entry 0 in the upper half of byte 6). -/
def dirNumber (img : Nat → Byte) (e : Nat) : Nat :=
  if e % 2 = 0 then img1 img (6 + e / 2) / 16 else img1 img (6 + e / 2) % 16

def dirEntry (img : Nat → Byte) (e : Nat) : Nat := img1 img (10 + 3 * e) * 65536 + img2 img (11 + 3 * e)
def dirOffset (img : Nat → Byte) (e : Nat) : Nat := dirEntry img e / 4096
def dirSize (img : Nat → Byte) (e : Nat) : Nat := dirEntry img e % 4096

/-- The offset of section `n` (R193). -/
def sectionAt (img : Nat → Byte) (n : Nat) : Nat :=
  match (List.range 7).find? (fun e => dirNumber img e == n) with
  | some e => dirOffset img e
  | none => 0

/-- The size of each section's layout (R219). -/
def sectionSize : Nat → Nat
  | 1 => 640
  | 2 => 4
  | 3 => 336
  | 4 => 8
  | 5 => 904
  | 6 => 98
  | 7 => 4
  | _ => 0

/-- The sum of the image bytes at offsets 32 .. length − 1, modulo 65536 (R193 item 3). -/
def imageSum (img : Nat → Byte) (length : Nat) : Nat :=
  ((List.range (length - 32)).foldl (fun acc i => acc + img1 img (32 + i)) 0) % 65536

/-- R193 item 4: a section missing or named twice, outside the image's content, or overlapping another.  That an entry of size
0 overlaps the section it points strictly inside, and may stand at the end of the image, is the model's choice (DESIGN CHOICE,
log entry 34). -/
def directoryFails (img : Nat → Byte) (length : Nat) : Bool :=
  (List.range 7).any (fun n => ((List.range 7).filter (fun e => dirNumber img e == n + 1)).length != 1) ||
  (List.range 7).any (fun e => decide (dirOffset img e < 32) || decide (dirOffset img e + dirSize img e > length)) ||
  (List.range 7).any (fun e => (List.range e).any (fun f =>
    decide (dirOffset img e < dirOffset img f + dirSize img f) &&
    decide (dirOffset img f < dirOffset img e + dirSize img e)))

def headerChecks (img : Nat → Byte) : List (Bool × ImageFailure) :=
  let length := img2 img 2
  itemOnce 0 1 (img2 img 0 != imageSignature) ++
  itemOnce 0 2 (decide (length < 32) || decide (length > 4096)) ++
  itemOnce 0 3 (imageSum img length != img2 img 4) ++
  itemOnce 0 4 (directoryFails img length) ++
  itemOnce 0 5 ((List.range 7).any (fun e => dirSize img e != sectionSize (dirNumber img e)))

/-! ### Section 1, Signal Table (R24) -/

/-- The kinds of channels, fixed by index (chapter 1). -/
inductive ChanKind where
  | switch
  | analogue
  | pulse
  deriving DecidableEq, Repr

def chanKind (i : Nat) : ChanKind := if i < 30 then .switch else if i < 38 then .analogue else .pulse

/-- The role set's codes (R16, R219): CLOSED, LOCKED and EDGE of DW0..DW3, then RAMP, KNEEL, PARK_BRAKE, HEADLAMP. -/
def Role.code : Role → Nat
  | .closed d => 3 * d.val
  | .locked d => 3 * d.val + 1
  | .edge d => 3 * d.val + 2
  | .ramp => 12
  | .kneel => 13
  | .parkBrake => 14
  | .headlamp => 15

def Role.ofCode (n : Nat) : Option Role :=
  if h : n < 12 then
    let d : Fin 4 := ⟨n / 3, by omega⟩
    if n % 3 = 0 then some (.closed d) else if n % 3 = 1 then some (.locked d) else some (.edge d)
  else if n = 12 then some .ramp
  else if n = 13 then some .kneel
  else if n = 14 then some .parkBrake
  else if n = 15 then some .headlamp
  else none

/-- The codes of DW0 HANDLE..DW3 HANDLE, which no channel may hold (R16). -/
def isHandleRoleCode (n : Nat) : Bool := decide (16 ≤ n) && decide (n < 20)

/-- The bytes of one channel part (R219). -/
structure RawChan where
  polarity : Nat
  count : Nat
  diag : Nat
  gndMax : Option Nat
  openLo : Option Nat
  openHi : Option Nat
  batMin : Option Nat
  policy : Nat
  substitute : Nat
  role : Nat
  deriving DecidableEq, Repr

def RawChan.read (img : Nat → Byte) (i : Nat) : RawChan :=
  let o := sectionAt img 1 + 16 * i
  { polarity := img1 img o, count := img1 img (o + 1), diag := img1 img (o + 2), gndMax := imgLimit img (o + 3),
    openLo := imgLimit img (o + 5), openHi := imgLimit img (o + 7), batMin := imgLimit img (o + 9),
    policy := img1 img (o + 11), substitute := img2 img (o + 12), role := img1 img (o + 14) }

/-- R2: line diagnostics "on, off", numbered in that order (R219, log entry 9). -/
def RawChan.diagOn (c : RawChan) : Bool := c.diag == 0

/-- R1: a channel is monitored when it is SWITCH or ANALOGUE and its line diagnostics are on. -/
def RawChan.monitored (c : RawChan) (i : Nat) : Bool := chanKind i != .pulse && c.diagOn

/-- R24 window order: among the windows present, gnd_max < open_lo ≤ open_hi < bat_min. -/
def RawChan.windowsMisordered (c : RawChan) : Bool :=
  match c.gndMax, c.openLo, c.openHi, c.batMin with
  | g, some lo, some hi, b =>
    decide (lo > hi) || g.any (fun x => decide (x ≥ lo)) || b.any (fun x => decide (hi ≥ x))
  | some g, _, _, some b => decide (g ≥ b)
  | _, _, _, _ => false

/-- R24, items 1 to 10, each over the channels in index order (R193).  Items 6 and 10 name no kind of channel: that the window
order is tested on monitored channels alone, the polarity code on SWITCH and the policy code on SWITCH and ANALOGUE, is the
model's choice (DEDUCED, log entry 8).  Where two channels hold one role, both fail and the lower index is the one reported: the
model's choice (DESIGN CHOICE, log entry 35). -/
def signalChecks (img : Nat → Byte) : List (Bool × ImageFailure) :=
  let c := RawChan.read img
  let roleTwice := fun i =>
    (c i).role != 255 && (List.range 40).any (fun j => j != i && (c j).role == (c i).role)
  itemOver 1 1 40 (fun i => chanKind i == .switch && (decide ((c i).count < 1) || decide ((c i).count > 60))) ++
  itemOver 1 2 40 (fun i => chanKind i == .analogue && decide ((c i).count > 4)) ++
  itemOver 1 3 40 (fun i => chanKind i == .pulse && (decide ((c i).count < 1) || decide ((c i).count > 8))) ++
  itemOver 1 4 40 (fun i => (c i).diagOn && (chanKind i == .pulse || i == 37)) ++
  itemOver 1 5 40 (fun i => (c i).monitored i && (c i).gndMax.isNone && (c i).batMin.isNone &&
    ((c i).openLo.isNone || (c i).openHi.isNone)) ++
  itemOver 1 6 40 (fun i => (c i).monitored i && (c i).windowsMisordered) ++
  itemOver 1 7 40 (fun i => chanKind i == .analogue && decide ((c i).substitute > 4095)) ++
  itemOver 1 8 40 (fun i => (chanKind i == .analogue && ((c i).policy == 1 || (c i).policy == 2)) ||
    (chanKind i == .switch && (c i).policy == 3)) ++
  itemOver 1 9 40 (fun i => ((Role.ofCode (c i).role).isSome && chanKind i != .switch) ||
    ((Role.ofCode (c i).role).isSome && roleTwice i) || isHandleRoleCode (c i).role) ++
  itemOver 1 10 40 (fun i => (chanKind i == .switch && decide ((c i).polarity > 1)) || decide ((c i).diag > 1) ||
    (chanKind i != .pulse && decide ((c i).policy > 3)) ||
    ((c i).role != 255 && (Role.ofCode (c i).role).isNone && !isHandleRoleCode (c i).role))

/-- A checked channel part (R2). -/
def RawChan.cfg (c : RawChan) (i : Nat) : ChanCfg :=
  { activeLow := c.polarity == 1, count := c.count, diag := c.monitored i, gndMax := c.gndMax, openLo := c.openLo,
    openHi := c.openHi, batMin := c.batMin,
    policy := if c.policy = 1 then .forceOff else if c.policy = 2 then .forceOn
      else if c.policy = 3 then .substitute c.substitute else .hold,
    role := if chanKind i == .switch then Role.ofCode c.role else none }

/-- The channel that holds a role in the image, as the checks of other sections ask it (R193). -/
def imageHasRole (img : Nat → Byte) (r : Role) : Bool :=
  (List.range 40).any (fun i => (RawChan.read img i).role == r.code)

/-! ### Section 2, Speed Unit (R45) -/

def imagePulse (img : Nat → Byte) : Nat := img4 img (sectionAt img 2)

def speedChecks (img : Nat → Byte) : List (Bool × ImageFailure) :=
  let p := imagePulse img
  itemOnce 2 1 (decide (p < 1000) || decide (p > 60000) || p % 10 != 0)

/-! ### Section 3, Gauge Unit (R48) -/

/-- The breakpoints a gauge record names, as numbers. -/
def gaugePoints (r : GaugeRaw) : List (Nat × Nat) :=
  (r.breaks.toList.take r.count.toNat).map (fun b => (b.face.toNat, b.angle.toNat))

/-- Whether a curve's faces are strictly increasing. -/
def facesIncrease : List (Nat × Nat) → Bool
  | [] => true
  | [_] => true
  | a :: b :: rest => decide (a.1 < b.1) && facesIncrease (b :: rest)

/-- R48: the first failing item of a gauge configuration record. -/
def gaugeFailingItem (r : GaugeRaw) : Option Nat :=
  let sweep := r.sweep.toNat
  ([ (r.source.toNat != 255 && decide (r.source.toNat > 39), 1),
     (decide (r.gain.toNat > 4095), 2),
     (decide (signed16 r.loLimit.toNat > signed16 r.hiLimit.toNat), 3),
     (decide (r.loSet.toNat > 10000) || decide (r.hiSet.toNat > 10000), 4),
     (decide (sweep < 1) || decide (sweep > 4320), 5),
     (decide (r.count.toNat < 2) || decide (r.count.toNat > 8), 6),
     ((gaugePoints r).any (fun p => decide (p.1 > 10000)) || !facesIncrease (gaugePoints r), 7),
     ((gaugePoints r).any (fun p => decide (p.2 > sweep)), 8),
     (decide (r.damping.toNat < 1) || decide (r.damping.toNat > 16), 9),
     (decide (r.slew.toNat < 1) || decide (r.slew.toNat > 200), 10),
     (decide (r.divider.toNat < 1) || decide (r.divider.toNat > 8), 11),
     (decide (r.enabled.toNat > 1), 12) ].find? (fun c => c.1)).map (fun c => c.2)

/-- A checked gauge configuration record (R47). -/
def gaugeCfgOf (r : GaugeRaw) : GaugeCfg :=
  { source := if h : r.source.toNat < 40 then .channel ⟨r.source.toNat, h⟩ else .fed,
    offset := r.offset.toNat, gain := r.gain.toNat, loLimit := signed16 r.loLimit.toNat,
    hiLimit := signed16 r.hiLimit.toNat, loSet := r.loSet.toNat, hiSet := r.hiSet.toNat, points := (gaugePoints r),
    sweep := r.sweep.toNat, damping := r.damping.toNat, slew := r.slew.toNat, divider := r.divider.toNat,
    enabled := r.enabled == 1#8 }

/-- The 56 bytes of a gauge record read from offset `o` (R219). -/
def gaugeRawRead (img : Nat → Byte) (o : Nat) : GaugeRaw :=
  let h := fun k => BitVec.ofNat 16 (img2 img (o + k))
  { source := img o, enabled := img (o + 1), offset := h 2, gain := h 4, loLimit := h 6, hiLimit := h 8, loSet := h 10,
    hiSet := h 12, sweep := h 14, damping := img (o + 16), slew := img (o + 17), divider := img (o + 18),
    count := img (o + 19),
    breaks := Vector.ofFn (fun i => { face := h (20 + 4 * i.val), angle := h (22 + 4 * i.val) }) }

def imageGauge (img : Nat → Byte) (g : Nat) : GaugeRaw := gaugeRawRead img (sectionAt img 3 + 56 * g)

/-- R193: all items of R48 for G0, then for G1 and on. -/
def gaugeChecks (img : Nat → Byte) : List (Bool × ImageFailure) :=
  (List.range 6).map (fun g =>
    match gaugeFailingItem (imageGauge img g) with
    | some item => (true, { sect := 3, item := item, index := some g })
    | none => (false, { sect := 3, item := 0, index := some g }))

/-! ### Section 4, Doorway (R75) -/

def imageDoor (img : Nat → Byte) (d : Nat) : Nat := img1 img (sectionAt img 4 + d)
def imageRamp (img : Nat → Byte) : Nat := img1 img (sectionAt img 4 + 4)

/-- Whether the image configures a doorway number. -/
def imageDoorUsed (img : Nat → Byte) (d : Nat) : Bool := decide (d < 4) && imageDoor img d == 1

/-- R75, items 1 to 4.  Items 3 and 4 are of the one ramp doorway and report no index, 0FFH: the model's choice (DESIGN
CHOICE, log entry 35). -/
def doorwayChecks (img : Nat → Byte) : List (Bool × ImageFailure) :=
  let has := fun (d k : Nat) => (List.range 40).any (fun i => (RawChan.read img i).role == 3 * d + k)
  let ramp := imageRamp img
  itemOver 4 1 4 (fun d => decide (imageDoor img d > 1) || (imageDoor img d == 1 && (!has d 0 || !has d 1))) ++
  itemOver 4 2 4 (fun d => imageDoor img d == 0 && (has d 0 || has d 1 || has d 2)) ++
  itemOnce 4 3 (ramp != 255 && !imageDoorUsed img ramp) ++
  itemOnce 4 4 (ramp != 255 && !imageHasRole img .ramp)

/-! ### Section 5, Warning (R100 to R102) -/

/-- The bytes of one warning definition (R219). -/
structure RawWarn where
  inUse : Nat
  kind : Nat
  source : Nat
  threshold : Nat
  hysteresis : Nat
  onDelay : Nat
  severity : Nat
  telltale : Nat
  chime : Nat
  latched : Nat
  record : Nat
  deriving DecidableEq, Repr

def RawWarn.read (img : Nat → Byte) (w : Nat) : RawWarn :=
  let o := sectionAt img 5 + 16 * w
  { inUse := img1 img o, kind := img1 img (o + 1), source := img1 img (o + 2), threshold := img2 img (o + 3),
    hysteresis := img2 img (o + 5), onDelay := img2 img (o + 7), severity := img1 img (o + 9),
    telltale := img1 img (o + 10), chime := img1 img (o + 11), latched := img1 img (o + 12),
    record := img1 img (o + 13) }

def TriggerKind.ofCode : Nat → Option TriggerKind
  | 0 => some .signalAbove
  | 1 => some .signalBelow
  | 2 => some .signalOn
  | 3 => some .lineFault
  | 4 => some .doorState
  | 5 => some .fed
  | 6 => some .builtIn
  | _ => none

def ChimePattern.ofWarnCode : Nat → Option ChimePattern
  | 1 => some .single
  | 2 => some .double
  | 3 => some .repeatSlow
  | _ => none

def imageLampFn (img : Nat → Byte) (l : Nat) : Nat := img1 img (sectionAt img 6 + 6 * l)

/-- R102 items 1 to 10 of one definition, as item numbers that fail.  Item 5 looks at positions 0 to 7 of the threshold mask,
the doorway states; that positions 8 to 15, which name no state, are ignored is the model's choice (DESIGN CHOICE, log entry
35). -/
def RawWarn.failingItem (r : RawWarn) (img : Nat → Byte) (w : Nat) : Option Nat :=
  let configured := decide (w < 48)
  let kind := TriggerKind.ofCode r.kind
  let isKind := fun k => configured && kind == some k
  let signal := isKind .signalAbove || isKind .signalBelow || isKind .signalOn
  ([ ((configured && (decide (r.inUse > 1) || kind.isNone || kind == some .builtIn)) ||
        decide (r.latched > 1) || decide (r.record > 1), 1),
     (signal && decide (r.source > 39), 2),
     (isKind .lineFault && !(decide (r.source < 40) && (RawChan.read img r.source).monitored r.source), 3),
     (isKind .doorState && !imageDoorUsed img r.source, 4),
     (isKind .doorState && (r.threshold % 256 == 0 || maskBit r.threshold 0 || maskBit r.threshold 1), 5),
     ((isKind .signalAbove && decide (r.hysteresis > r.threshold)) ||
        (isKind .signalBelow && (r.threshold == 0 || decide (r.threshold + r.hysteresis > 65535))), 6),
     (configured && decide (r.onDelay > 1000), 7),
     (decide (r.severity > 7), 8),
     (r.telltale != 255 && (decide (r.telltale > 11) || imageLampFn img r.telltale != 1), 9),
     (decide (r.chime > 3), 10) ].find? (fun c => c.1)).map (fun c => c.2)

def imageMapCode (img : Nat → Byte) (sev : Nat) : Nat := img1 img (sectionAt img 5 + 896 + sev)

/-- R102: definitions in use, built-in ones included, that a map places in STOP. -/
def stopCount (inUse : Nat → Bool) (severity : Nat → Nat) (map : Nat → Nat) : Nat :=
  ((List.range 56).filter (fun w => inUse w && map (severity w) == 0)).length

/-- R102, R193: items 1 to 10 per definition, then the map.  Items 11 and 12 are of the map and not of one definition, and report
no index, 0FFH: the model's choice (DESIGN CHOICE, log entry 35). -/
def warningChecks (img : Nat → Byte) : List (Bool × ImageFailure) :=
  let r := RawWarn.read img
  let used := fun w => decide (w ≥ 48) || (r w).inUse != 0
  (List.range 56).map (fun w =>
    match (if used w then (r w).failingItem img w else none) with
    | some item => (true, { sect := 5, item := item, index := some w })
    | none => (false, { sect := 5, item := 0, index := some w })) ++
  itemOnce 5 11 ((List.range 8).any (fun sev => decide (imageMapCode img sev > 3))) ++
  itemOnce 5 12 (decide (stopCount used (fun w => (r w).severity) (imageMapCode img) > 16))

/-- The on-delay of the built-in definitions (R101). -/
def builtInDelay (w : Nat) : Nat := if w = 53 ∨ w = 54 then 500 else 0

/-- A checked warning definition (R100, R101): of W48..W55 the image sets severity, telltale, chime, latched, record. -/
def RawWarn.cfg (r : RawWarn) (w : Nat) : WarnDef :=
  { inUse := decide (w ≥ 48) || r.inUse == 1,
    kind := if w ≥ 48 then .builtIn else (TriggerKind.ofCode r.kind).getD .fed,
    source := if w ≥ 48 then w else r.source, threshold := r.threshold, hysteresis := r.hysteresis,
    onDelay := if w ≥ 48 then builtInDelay w else r.onDelay, severity := Fin.ofNat 8 r.severity,
    telltale := if h : r.telltale < 12 then some ⟨r.telltale, h⟩ else none, chime := ChimePattern.ofWarnCode r.chime,
    latched := r.latched == 1, record := r.record == 1 }

/-- The built-in definitions' defaults (R101), and no others. -/
def defaultDef (w : Nat) : WarnDef :=
  let d := { WarnDef.unused with inUse := true, kind := .builtIn, source := w, onDelay := builtInDelay w }
  match w with
  | 48 => { d with severity := 7, chime := some .repeatSlow, latched := true, record := true }
  | 49 => { d with severity := 7, record := true }
  | 50 => { d with severity := 4, chime := some .single }
  | 51 => { d with severity := 4, chime := some .single }
  | 52 => { d with severity := 5, chime := some .double }
  | 53 => { d with severity := 5, chime := some .double, record := true }
  | 54 => { d with severity := 5, chime := some .double, record := true }
  | 55 => { d with severity := 3 }
  | _ => WarnDef.unused

/-! ### Section 6, Output (R131) -/

def imageTrip (img : Nat → Byte) (l : Nat) : Nat := img1 img (sectionAt img 6 + 6 * l + 1)
def imageOcLevel (img : Nat → Byte) (l : Nat) : Nat := img2 img (sectionAt img 6 + 6 * l + 2)
def imageOpenLevel (img : Nat → Byte) (l : Nat) : Nat := img2 img (sectionAt img 6 + 6 * l + 4)
def imageNight (img : Nat → Byte) : Nat := img2 img (sectionAt img 6 + 96)

/-- R131: a function code other than 1, 2 + d or 6, or DOOR(d) of a doorway not configured. -/
def lampFnFails (img : Nat → Byte) (code : Nat) : Bool :=
  if code = 1 ∨ code = 6 then false
  else if 2 ≤ code ∧ code < 6 then !imageDoorUsed img (code - 2)
  else true

def LampFn.ofCode (code : Nat) : LampFn :=
  if h : 2 ≤ code ∧ code < 6 then .door ⟨code - 2, by omega⟩
  else if code = 6 then .off
  else .telltale

def outputChecks (img : Nat → Byte) : List (Bool × ImageFailure) :=
  itemOver 6 1 12 (fun l => lampFnFails img (imageLampFn img l)) ++
  itemOver 6 2 16 (fun l => decide (imageTrip img l < 1) || decide (imageTrip img l > 127)) ++
  itemOver 6 3 16 (fun l => decide (imageOcLevel img l < 1) || decide (imageOcLevel img l > 4095)) ++
  itemOver 6 4 12 (fun l => decide (imageOpenLevel img l ≥ imageOcLevel img l)) ++
  itemOnce 6 5 (decide (imageNight img < 50) || decide (imageNight img > 1000))

/-! ### Section 7, Power (R210) -/

def imageEnable (img : Nat → Byte) (k : Nat) : Nat := img1 img (sectionAt img 7 + k)

def powerChecks (img : Nat → Byte) : List (Bool × ImageFailure) :=
  itemOnce 7 1 ((List.range 3).any (fun k => decide (imageEnable img k > 1))) ++
  itemOnce 7 2 (imageEnable img 0 == 1)

/-! ### The whole image -/

/-- R193: the first failing check, header first, then the sections in the order of their numbers. -/
def imageFailure (img : Nat → Byte) : Option ImageFailure :=
  match firstFailure (headerChecks img) with
  | some f => some f
  | none => firstFailure (signalChecks img ++ speedChecks img ++ gaugeChecks img ++ doorwayChecks img ++
      warningChecks img ++ outputChecks img ++ powerChecks img)

/-- What each block takes at the end of the preload (R191): its section of the image in READY, or its built-in
defaults in CONFIG_HOLD. -/
structure BlockConfig where
  chan : Vector ChanCfg 40
  pulse : Nat
  gauge : Vector (Option GaugeCfg) 6
  door : Vector Bool 4
  rampDoor : Option (Fin 4)
  defs : Vector WarnDef 56
  map : Vector WarnClass 8
  lampFn : Vector LampFn 12
  tripAt : Vector Nat 16
  ocLevel : Vector Nat 16
  openLevel : Vector Nat 12
  nightDuty : Nat
  enables : WakeEnables
  deriving DecidableEq, Repr

/-- The configuration of a valid image. -/
def imageConfig (img : Nat → Byte) : BlockConfig :=
  { chan := Vector.ofFn (fun i => (RawChan.read img i.val).cfg i.val),
    pulse := imagePulse img,
    gauge := Vector.ofFn (fun g => some (gaugeCfgOf (imageGauge img g.val))),
    door := Vector.ofFn (fun d => imageDoor img d.val == 1),
    rampDoor := if h : imageRamp img < 4 then some ⟨imageRamp img, h⟩ else none,
    defs := Vector.ofFn (fun w => (RawWarn.read img w.val).cfg w.val),
    map := Vector.ofFn (fun s => (WarnClass.ofCode (imageMapCode img s.val)).getD .silent),
    lampFn := Vector.ofFn (fun l => LampFn.ofCode (imageLampFn img l.val)),
    tripAt := Vector.ofFn (fun l => imageTrip img l.val),
    ocLevel := Vector.ofFn (fun l => imageOcLevel img l.val),
    openLevel := Vector.ofFn (fun l => imageOpenLevel img l.val),
    nightDuty := imageNight img,
    enables := { key := imageEnable img 0 == 0, handle := imageEnable img 1 == 0, link := imageEnable img 2 == 0 } }

/-- R23: a channel's built-in configuration part. -/
def defaultChan (i : Nat) : ChanCfg :=
  { activeLow := false, count := if i < 30 then 10 else 2, diag := false, gndMax := none, openLo := none,
    openHi := none, batMin := none, policy := .hold, role := none }

/-- The built-in defaults under CONFIG_HOLD (table of 9.6, "Built-in defaults"). -/
def defaultConfig : BlockConfig :=
  { chan := Vector.ofFn (fun i => defaultChan i.val), pulse := 8000, gauge := Vector.replicate 6 none,
    door := Vector.replicate 4 false, rampDoor := none, defs := Vector.ofFn (fun w => defaultDef w.val),
    map := WarnClass.defaultMap, lampFn := Vector.replicate 12 .telltale, tripAt := Vector.replicate 16 10,
    ocLevel := Vector.replicate 16 3000, openLevel := Vector.replicate 12 0, nightDuty := 300,
    enables := { key := true, handle := true, link := true } }

end Sys2Proof.Machine
end

