-- ==== Sys2Proof/Machine/Flags.lean ====
section
/-!
DEFINITION. The flags and conditions that the manual defines as functions of other state, and the four items a channel
hands out (R3).  Each is computed here and stored nowhere (log entry 2).
-/

namespace Sys2Proof.Machine

/-- The indices of a collection of `n`, in index order. -/
abbrev indices (n : Nat) : List (Fin n) := List.finRange n

/-- Whether the part runs: supply is applied and the power mode is not WATCH. -/
def State.awake (s : State) : Bool := s.powered && s.power.mode != .watch

/-! ### Signal Table -/

/-- R1: a condition is declared when it is OPEN, SHORT_GND or SHORT_BAT.  This is also the substituted flag (R1). -/
def LineCond.declared : LineCond → Bool
  | .openLine => true
  | .shortGnd => true
  | .shortBat => true
  | .normal => false
  | .suspended => false
  | .unmonitored => false

/-- R1: whether the channel is monitored. -/
def Channel.monitored (c : Channel) : Bool := c.cfg.any (fun g => g.diag)

/-- R17, R18: whether monitored channels are suspended or settling. -/
def SignalTable.frozen (t : SignalTable) : Bool := t.hold != .none

/-- R19: the forced value of a channel, if it is forced. -/
def State.forcedValue (s : State) (i : Fin 40) : Option Nat := (s.svc.forces.find? (fun f => f.1 == i)).map (fun f => f.2)

/-- The four items that a channel or a role hands out (chapter 1.2). -/
structure Handed where
  value : Nat
  cond : LineCond
  substituted : Bool
  forced : Bool
  deriving DecidableEq, Repr

/-- R3: what a channel hands out. -/
def State.handed (s : State) (i : Fin 40) : Handed :=
  { value := (s.forcedValue i).getD s.sig.chan[i].value, cond := s.sig.chan[i].cond,
    substituted := s.sig.chan[i].cond.declared, forced := (s.forcedValue i).isSome }

/-- R16: the channel that holds a role. -/
def State.holder (s : State) (r : Role) : Option (Fin 40) :=
  (indices 40).find? (fun i => decide ((s.sig.chan[i].cfg.bind (fun g => g.role)) = some r))

/-- R16: what a role hands out; a role held by no channel reads 0, UNMONITORED, no, no. -/
def State.role (s : State) (r : Role) : Handed :=
  match s.holder r with
  | some i => s.handed i
  | none => { value := 0, cond := .unmonitored, substituted := false, forced := false }

/-- R16: whether a role's value reads 1. -/
def State.roleOn (s : State) (r : Role) : Bool := (s.role r).value == 1

/-- AN7, the supply channel (00_scope.md section 3). -/
def supplyChannel : Fin 40 := 37

/-- R110, R202: the supply in mV. -/
def State.supplyMv (s : State) : Nat := (s.handed supplyChannel).value * 8

/-! ### Speed Unit -/

/-- R33: standstill. -/
def State.standstill (s : State) : Bool := s.speed.estimate == 0 && s.speed.settled

/-! ### Gauge Unit -/

/-- R57: a gauge is stale while its active source is FED, its feed age is 1000 and it is not DISABLED. -/
def Gauge.stale (g : Gauge) : Bool :=
  g.active.any (fun c => c.source == .fed) && decide (g.feedAge ≥ 1000) && g.state != .disabled

/-- R61: at rest is PARKED, or DISABLED with the position 0 or not known. -/
def Gauge.atRest (g : Gauge) : Bool :=
  g.state == .parked || (g.state == .disabled && (!g.known || g.position == 0))

/-- R61: whether all gauges are at rest.  Computed from the gauges at every moment, so right after a WAKE that leaves PARKED
gauges alone it reads yes, where R209's table has no: the model's choice (DESIGN CHOICE, log entry 2). -/
def State.gaugesAtRest (s : State) : Bool := s.gauges.gauge.toList.all Gauge.atRest

/-! ### Doorway Monitor -/

/-- R83: the line demand of a release phase is FLASH. -/
def ReleasePhase.flashes : ReleasePhase → Bool
  | .pulled => true
  | .restoredUnacked => true
  | .none => false
  | .acked => false

/-- R82: the doorway states that are unsafe. -/
def DoorState.callsBrake : DoorState → Bool
  | .openDoor => true
  | .obstructed => true
  | .released => true
  | .fault => true
  | .disabled => false
  | .unconfigured => false
  | .closed => false
  | .locked => false

/-- R88: any release phase is not NONE. -/
def State.anyRelease (s : State) : Bool := s.doors.door.toList.any (fun d => d.phase != .none)

/-- R88: any doorway is in PULLED or RESTORED_UNACKED. -/
def State.anyFlashing (s : State) : Bool := s.doors.door.toList.any (fun d => d.phase.flashes)

/-! ### Output Unit -/

/-- R136: the override standing on an output. -/
def State.overrideOf (s : State) (o : OutputId) : Option Setting :=
  (s.svc.overrides.find? (fun x => x.1 == o)).map (fun x => x.2)

/-- The lamp output of doorway `d`'s handle line, L(12 + d). -/
def handleLamp (d : Fin 4) : Fin 16 := ⟨12 + d.val, by omega⟩

/-- R87: a doorway is masked while an override stands on its handle line. -/
def State.masked (s : State) (d : Fin 4) : Bool := (s.overrideOf (.lamp (handleLamp d))).isSome

/-- Whether a drive asks for power now: ON, or FLASH in its DRIVEN half (R130). -/
def Lamp.asks (L : Lamp) : Bool := L.drive == .on || (L.drive == .flash && L.half.driven)

/-- R130: a lamp output is energised. -/
def State.energised (s : State) (l : Fin 16) : Bool :=
  s.awake && s.out.lamp[l].protection != .shutdown && s.out.lamp[l].asks

/-- R134: the duty in ‰ at which a lamp output is driven while it is energised: DAY 1000 or the configured night duty for
L0..L11, always 1000 for the handle lines. -/
def State.duty (s : State) (l : Fin 16) : Nat := if l.val < 12 ∧ s.out.night = true then s.out.nightDuty else 1000

/-- R130, R134: what a lamp output's pin delivers now, in ‰ of full drive: its duty while it is energised, else nothing. -/
def State.lampDrive (s : State) (l : Fin 16) : Nat := if s.energised l then s.duty l else 0

/-- R109: any lamp output in SHUTDOWN or RETRY. -/
def State.anyLampDown (s : State) : Bool := s.out.lamp.toList.any (fun L => L.protection != .normal)

/-- R144: an override stands on the chime. -/
def State.chimeOverridden (s : State) : Bool := (s.overrideOf .chime).isSome

/-- The tone at the chime output now (R142, R144): whether it sounds. -/
def ChimePattern.sounds (p : ChimePattern) (t : Nat) : Bool :=
  match p with
  | .repeatFast => decide (t < 100)
  | .repeatSlow => decide (t < 300)
  | .double => decide (t < 150) || (decide (250 ≤ t) && decide (t < 400))
  | .single => decide (t < 200)

/-- R142: the length of a pattern's sounding part. -/
def ChimePattern.soundLength : ChimePattern → Nat
  | .repeatFast => 100
  | .repeatSlow => 300
  | .double => 400
  | .single => 200

/-- R142: the cycle of a standing demand. -/
def ChimePattern.cycle : ChimePattern → Nat
  | .repeatFast => 250
  | .repeatSlow => 1000
  | .double => 1500
  | .single => 1500

/-- R142: the length of a one-shot, its sounding part and 100 ms of silence. -/
def ChimePattern.shotLength (p : ChimePattern) : Nat := p.soundLength + 100

/-- R142: ranks, 1 the highest. -/
def ChimePattern.rank : ChimePattern → Nat
  | .repeatFast => 1
  | .repeatSlow => 2
  | .double => 3
  | .single => 4

/-- The chime output pin: a tone or silence (R142 to R144). -/
def State.chimeTone (s : State) : Bool :=
  s.awake &&
  match s.overrideOf .chime with
  | some .on => true
  | some .off => false
  | some .flash => s.out.chime.half.driven
  | none =>
    match s.out.chime.playing with
    | .none => false
    | .standing p t => p.sounds t
    | .oneshot p r => p.sounds (p.shotLength - r)

/-! ### Fault Memory and Store Controller -/

/-- R150: the record count. -/
def State.recordCount (s : State) : Nat := (s.fault.record.toList.filter (fun r => r.isSome)).length

/-- R161: the number of ACTIVE records. -/
def State.activeCount (s : State) : Nat := (s.fault.record.toList.filter (fun r => r.any (fun x => x.active))).length

/-- Whether a part of the flush is over (R41, R159). -/
def FlushPart.over : FlushPart → Bool
  | .none => true
  | .done => true
  | .waiting => false
  | .inFlight => false

/-- R159: both parts of the parking flush are done. -/
def State.flushDone (s : State) : Bool := s.speed.parking.over && s.fault.part.over

/-- R187: an access is in flight.  Right after a reset the first read of the preload is, and it reads yes where R209's table has
no: the model's choice (DESIGN CHOICE, log entry 2). -/
def State.accessInFlight (s : State) : Bool := s.store.inFlight.isSome

/-- R184, R187: whether the access in flight is one of a kind. -/
def State.inFlightIs (s : State) (f : Purpose → Bool) : Bool := s.store.inFlight.any (fun a => f a.purpose)

/-- R186: whether a pending access is one of a kind. -/
def PendingAccesses.has (w : PendingAccesses) (f : Purpose → Bool) : Bool :=
  w.preload.any f || w.parkFlush.any f || w.record.any f || w.service.any f || w.display.any f

def WriterItem.isFault : WriterItem → Bool
  | .odo => false
  | .header => true
  | .position _ => true

/-- R161: write pending, for the Fault Memory. -/
def State.faultWritePending (s : State) : Bool :=
  s.fault.items.any WriterItem.isFault || !s.fault.part.over ||
  (let f := fun p => match p with
    | .record item => item.isFault
    | .faultClear => true
    | _ => false
   s.inFlightIs f || s.store.waiting.has f)

/-- R43: write pending, for the odometer. -/
def State.odoWritePending (s : State) : Bool :=
  s.speed.scheduled != .none || !s.speed.parking.over ||
  (let f := fun p => decide (p = .odoSet)
   s.inFlightIs f || s.store.waiting.has f)

/-- R206: the pointer condition of PARKING: the gauges at rest, or the parking timer at its 5000 ms. -/
def State.pointersReleased (s : State) : Bool := s.gaugesAtRest || s.power.parkTimer.any (fun t => decide (t ≥ 5000))

/-- The four parking conditions of R206, as compared to see a change of one. -/
def State.parkConditions (s : State) : Bool × Bool × Bool × Bool :=
  (s.pointersReleased, s.flushDone, s.power.claim.isSome, s.accessInFlight)

/-! ### Power Controller -/

/-- R203: the crank condition. -/
def State.crankCondition (s : State) : Bool :=
  s.power.ign.level && (s.power.crank.level || s.power.supplyClass == .sag)

/-- R206: PARKING may end in WATCH. -/
def State.mayWatch (s : State) : Bool :=
  s.pointersReleased && s.flushDone && s.power.claim.isNone && !s.accessInFlight

/-- R202: the class of a supply in mV. -/
def SupplyClass.ofMv (mv : Nat) : SupplyClass :=
  if mv < 16000 then .sag else if mv < 18000 then .low else if mv ≤ 30000 then .normal else .high

end Sys2Proof.Machine
end

