-- ==== Sys2Proof/Machine/Ops.lean ====
section
/-!
DEFINITION. The shared operations of the Link Interface and of the record and store state: topics made pending, replies
placed, the record writer, the parking flush and the start of store accesses (R157, R159, R184, R186).
-/

namespace Sys2Proof.Machine

/-- One element of a fixed collection changed. -/
def upd {α : Type} {n : Nat} (v : Vector α n) (i : Fin n) (f : α → α) : Vector α n := v.set i (f v[i])

/-- Every element of a fixed collection changed, with its index. -/
def updAll {α : Type} {n : Nat} (v : Vector α n) (f : Fin n → α → α) : Vector α n := Vector.ofFn (fun i => f i v[i])

/-! ### Links -/

def Links.get (k : Links) : LinkId → Link
  | .display => k.display
  | .service => k.service

def Links.set (k : Links) (l : LinkId) (r : Link) : Links :=
  match l with
  | .display => { k with display := r }
  | .service => { k with service := r }

/-- A link's record. -/
def State.link (s : State) (l : LinkId) : Link := s.links.get l

/-- One link's record changed. -/
def State.modLink (s : State) (l : LinkId) (f : Link → Link) : State :=
  { s with links := s.links.set l (f (s.links.get l)) }

/-- R216: a change sets the topic's flag where the topic is enabled. -/
def Link.raise (t : Topic) (r : Link) : Link := if r.enabled[t.index] then { r with flag := r.flag.set t.index true } else r

/-- R216: a topic made pending on each link where it is enabled. -/
def raiseTopic (t : Topic) (s : State) : State :=
  { s with links := { display := s.links.display.raise t, service := s.links.service.raise t } }

/-- A topic made pending where a change it reports has come. -/
def topicIf (changed : Bool) (t : Topic) (s : State) : State := if changed then raiseTopic t s else s

/-- Reply status codes (R213). -/
inductive Status where
  | ok
  | accepted
  | notReady
  | busy
  | refusedMode
  | serviceClosed
  | locked
  | badArg
  | badConfig
  | unknownRequest
  | staleAck
  | notPending
  | storeFault
  deriving DecidableEq, Repr

def Status.code : Status → Nat
  | .ok => 0x00
  | .accepted => 0x01
  | .notReady => 0x10
  | .busy => 0x11
  | .refusedMode => 0x12
  | .serviceClosed => 0x13
  | .locked => 0x14
  | .badArg => 0x20
  | .badConfig => 0x21
  | .unknownRequest => 0x22
  | .staleAck => 0x30
  | .notPending => 0x31
  | .storeFault => 0x40

/-- R214: a reply frame. -/
def replyFrame (code tag : Byte) (st : Status) (fields : List Byte) (restarts : Bool) : Frame :=
  { kind := 0x02#8, code := code, tag := tag, payload := byte1 st.code :: fields, restarts := restarts }

/-- A reply placed at the end of a link's reply queue (R213). -/
def placeReply (l : LinkId) (f : Frame) (s : State) : State := s.modLink l (fun r => { r with replies := r.replies ++ [f] })

/-- R213: the held reply of a link's request in flight, placed at the completion or the drop of its store access.
With no request in flight no reply is owed. -/
def answerHeld (l : LinkId) (st : Status) (fields : List Byte) (restarts : Bool) (s : State) : State :=
  match (s.link l).inFlight with
  | some (code, tag) =>
    placeReply l (replyFrame code tag st fields restarts) (s.modLink l (fun r => { r with inFlight := none }))
  | none => s

/-! ### Stored bytes (R219) -/

/-- The 22 bytes of a fault record from the code on (R219). -/
def FaultRec.bytes (r : FaultRec) : List Byte :=
  put1 r.code.source.code ++ put1 r.code.index ++ put1 r.code.kind.code ++
  put1 (if r.active then 0 else 1) ++ put1 r.count ++ put1 r.aging ++ put4 r.firstOdo ++ put4 r.lastOdo ++
  put2 r.speed ++ put2 r.supply ++ put1 r.mode ++
  (match r.context with
   | some (st, ph) => put1 1 ++ put1 st ++ put1 ph
   | none => put1 0 ++ put1 0 ++ put1 0)

/-- Bytes with the check that makes their 8-bit sum 0 put at the end. -/
def withCheck (bs : List Byte) : List Byte := bs ++ [checkByte bs]

/-- The 48 bytes of a position of the FAULTS area (R157, R219): all 0 for an empty position. -/
def positionBytes (r : Option FaultRec) : List Byte :=
  match r with
  | some x => withCheck (put1 1 ++ x.bytes ++ List.replicate 24 0#8)
  | none => List.replicate 48 0#8

/-- The 64 header bytes of the FAULTS area (R219), the overflow indicator set 0 and clear 1 (log entry 9). -/
def State.headerBytes (s : State) : List Byte :=
  withCheck (put1 s.recordCount ++ put1 (setClearCode s.fault.overflow) ++ List.replicate 61 0#8)

/-- The 16 bytes of an odometer slot (R38, R219). -/
def slotBytes (value : Nat) : List Byte := withCheck (put4 value) ++ List.replicate 11 0#8

/-- The 1600 bytes of the FAULTS area as the mirror stands (R163). -/
def State.faultAreaBytes (s : State) : List Byte :=
  s.headerBytes ++ (s.fault.record.toList.map positionBytes).flatten

/-! ### Dirty marks and the record writer (R157, R158) -/

/-- The dirty mark of a position or of the header set or cleared. -/
def FaultMemory.mark (m : FaultMemory) (item : WriterItem) (b : Bool) : FaultMemory :=
  match item with
  | .position p => { m with dirty := m.dirty.set p b }
  | .header => { m with headerDirty := b }
  | .odo => m

/-- Every dirty mark set or cleared (R163). -/
def FaultMemory.markAll (m : FaultMemory) (b : Bool) : FaultMemory :=
  { m with dirty := Vector.replicate 32 b, headerDirty := b }

/-- R159: the dirty positions in position order, then the header. -/
def FaultMemory.dirtyItems (m : FaultMemory) : List WriterItem :=
  ((indices 32).filter (fun p => m.dirty[p])).map WriterItem.position ++ (if m.headerDirty then [.header] else [])

/-- R157: an item added at the tail unless an equal item is in the list. -/
def addItem (item : WriterItem) (s : State) : State :=
  if s.fault.items.contains item then s else { s with fault := { s.fault with items := s.fault.items ++ [item] } }

/-- R157: the head item becomes the record writer's pending access when it has none. -/
def recordPump (s : State) : State :=
  match s.store.waiting.record, s.fault.items with
  | none, item :: rest =>
    { s with
      fault := { s.fault with items := rest },
      store := { s.store with waiting := { s.store.waiting with record := some (.record item) } } }
  | _, _ => s

/-- R41, R44: a scheduled odometer write that is waiting is withdrawn. -/
def withdrawScheduled (s : State) : State :=
  if s.speed.scheduled = .waiting then
    let w := s.store.waiting
    { s with
      speed := { s.speed with scheduled := .none },
      fault := { s.fault with items := s.fault.items.filter (fun i => i != .odo) },
      store := { s.store with waiting :=
        { w with record := if w.record = some (.record .odo) then none else w.record } } }
  else s

/-- The record writer's waiting and pending POSITION and HEADER items (R159). -/
def State.writerFaultItems (s : State) : List WriterItem :=
  s.fault.items.filter WriterItem.isFault ++
  (match s.store.waiting.record with
   | some (.record item) => if item.isFault then [item] else []
   | _ => [])

/-- R159, R162: those items withdrawn. -/
def withdrawFaultItems (s : State) : State :=
  let w := s.store.waiting
  let pending := match w.record with
    | some (.record item) => if item.isFault then none else w.record
    | other => other
  { s with
    fault := { s.fault with items := s.fault.items.filter (fun i => !i.isFault) },
    store := { s.store with waiting := { w with record := pending } } }

/-! ### The parking flush (R41, R159) -/

/-- R41: a parking write that ended or was dropped; a further one queued behind it is taken up or is done at once. -/
def SpeedUnit.endParking (u : SpeedUnit) : SpeedUnit :=
  if u.parkingAgain then
    { u with parkingAgain := false, parking := if u.working > u.stored then .waiting else .done }
  else { u with parking := .done }

/-- R159: a fault part that ended; a further part queued behind it is taken up if any mark is dirty. -/
def FaultMemory.endPart (m : FaultMemory) : FaultMemory :=
  if m.partAgain then
    { m with partAgain := false, partItems := [], part := if m.dirtyItems.isEmpty then .done else .waiting }
  else { m with partItems := [], part := .done }

/-- R159: the fault part starts when the odometer part is done, taking what is dirty at that moment. -/
def beginFaultPart (s : State) : State :=
  if s.fault.part = .waiting ∧ s.speed.parking.over = true then
    if s.fault.dirtyItems.isEmpty then { s with fault := s.fault.endPart }
    else { s with fault := { s.fault with part := .inFlight, partItems := s.fault.dirtyItems } }
  else s

def Purpose.isParkItem : Purpose → Bool
  | .parkItem _ => true
  | _ => false

/-- R159, R186: the parking flush requester hands its next access when it has none pending: the odometer part first,
then the fault part's writes, each at the completion of the one before.  A parking write that a second entry to PARKING makes
waiting while the first flush's fault part is under way is handed ahead of that part's next write, which is handed at its start:
the model's choice (DESIGN CHOICE, log entry 21). -/
def parkPump (s0 : State) : State :=
  let s := beginFaultPart s0
  let hand := fun (p : Purpose) (st : State) =>
    { st with store := { st.store with waiting := { st.store.waiting with parkFlush := some p } } }
  if s.store.waiting.parkFlush.isSome then s
  else if s.speed.parking = .waiting then hand .parkOdo s
  else if s.fault.part = .inFlight ∧ s.inFlightIs Purpose.isParkItem = false then
    match s.fault.partItems with
    | item :: rest => hand (.parkItem item) { s with fault := { s.fault with partItems := rest } }
    | [] => s
  else s

/-! ### Starting accesses (R184, R186) -/

/-- An access over a span, at its start. -/
def newAccess (p : Purpose) (isWrite : Bool) (area : Area) (offset total : Nat) (bytes : List Byte) : Access :=
  { purpose := p, isWrite := isWrite, area := area, offset := offset, total := total, bytes := bytes, done := 0,
    got := [], attempts := 0, odometer := 0 }

/-- R186: an access becomes the one in flight. -/
def fly (a : Access) (s : State) : State := { s with store := { s.store with inFlight := some a } }

/-- R40: an odometer write at its start: the working odometer, to the next slot. -/
def odoAccess (p : Purpose) (s : State) : Access :=
  { newAccess p true .odo (16 * s.speed.nextSlot.val) 16 (slotBytes s.speed.working) with odometer := s.speed.working }

/-- R157, R159: the write of a position or of the header at its start. -/
def faultItemAccess (p : Purpose) (item : WriterItem) (s : State) : Access :=
  match item with
  | .position q => newAccess p true .faults (64 + 48 * q.val) 48 (positionBytes s.fault.record[q])
  | .header => newAccess p true .faults 0 64 s.headerBytes
  | .odo => odoAccess p s

/-- R184, R186: a handed access starts, its content taken as things stand now.  A parking write whose value is already
stored is dropped at its start: R41 says so where the completion of a scheduled write in flight has stored it, and that the
same holds whatever write has, an ODO_SET in flight at the entry to PARKING among them, is the model's choice (DESIGN CHOICE,
log entry 21).  A scheduled write is not: one kept behind a further parking write starts in its turn
(R40) and writes the working odometer to the next slot, also where that parking write has just stored the same value.  The
manual does not say; it is the model's choice (DESIGN CHOICE, log entry 21). -/
def startAccess (p : Purpose) (s : State) : State :=
  match p with
  | .preOdo => fly (newAccess p false .odo 0 64 []) s
  | .preFaults => fly (newAccess p false .faults 0 1600 []) s
  | .preConfig => fly (newAccess p false .config 0 4096 []) s
  | .parkOdo =>
    if s.speed.working ≤ s.speed.stored then { s with speed := s.speed.endParking }
    else fly (odoAccess p s) { s with speed := { s.speed with parking := .inFlight } }
  | .parkItem item => fly (faultItemAccess p item s) { s with fault := s.fault.mark item false }
  | .record .odo => fly (odoAccess p s) { s with speed := { s.speed with scheduled := .inFlight } }
  | .record item => fly (faultItemAccess p item s) { s with fault := s.fault.mark item false }
  | .linkRead _ area offset count => fly (newAccess p false area offset count []) s
  | .linkWrite _ area offset bytes _ => fly (newAccess p true area offset bytes.length bytes) s
  | .odoSet => fly (odoAccess p s) s
  | .faultClear => fly (newAccess p true .faults 0 1600 s.faultAreaBytes) { s with fault := s.fault.markAll false }
  | .release _ _ => fly (newAccess p true .config 0 4096 (Mem.readBytes 0#8 s.store.staging 0 4096)) s

/-- R186: the pending access of the highest rank, taken out of the pending ones. -/
def PendingAccesses.takeFirst (w : PendingAccesses) : Option (Purpose × PendingAccesses) :=
  match w.preload, w.parkFlush, w.record, w.service, w.display with
  | some p, _, _, _, _ => some (p, { w with preload := none })
  | none, some p, _, _, _ => some (p, { w with parkFlush := none })
  | none, none, some p, _, _ => some (p, { w with record := none })
  | none, none, none, some p, _ => some (p, { w with service := none })
  | none, none, none, none, some p => some (p, { w with display := none })
  | none, none, none, none, none => none

/-- R206: whether the flush became done between two states and PARKING may now end. -/
def State.flushEnds (s0 s : State) : Bool :=
  s.power.mode == .parking && !s0.flushDone && s.flushDone && s.mayWatch

/-- R186: the requesters hand what they have, and an idle store starts the pending access of the highest rank.
`fuel` bounds the parking writes dropped at their start.  Where the flush becomes done with nothing in flight, by a parking
write dropped at its start (R41) or a fault part with nothing to write (R159), and PARKING may end, no access starts: the mode
evaluation of that change (R206), which the command makes next, enters WATCH. -/
def storePump : Nat → State → State
  | 0, s => s
  | fuel + 1, s0 =>
    let s := recordPump (parkPump s0)
    if s.store.inFlight.isSome || s0.flushEnds s then s
    else
      match s.store.waiting.takeFirst with
      | none => s
      | some (p, rest) =>
        let t := startAccess p { s with store := { s.store with waiting := rest } }
        if s.flushEnds t then t else storePump fuel t

/-- The bound on `storePump`'s rounds: one started access, and parking writes dropped before it. -/
def pumpRounds : Nat := 8

/-- R186: an access handed by a link's request. -/
def handLinkAccess (l : LinkId) (p : Purpose) (s : State) : State :=
  let w := s.store.waiting
  let w' := match l with
    | .display => { w with display := some p }
    | .service => { w with service := some p }
  storePump pumpRounds { s with store := { s.store with waiting := w' } }

/-- R41: the Power Controller asks for the odometer write at an entry to PARKING.  A waiting scheduled write is withdrawn where
the parking write becomes waiting at this entry, and kept where a further one is queued behind one in flight: the second is
the model's choice, and so is that the kept write starts in its turn whatever has been stored by then, and that a request
which finds a further parking write already queued adds nothing (DESIGN CHOICE, log entry 21). -/
def requestParkingWrite (s : State) : State :=
  match s.speed.parking with
  | .waiting => s
  | .inFlight => { s with speed := { s.speed with parkingAgain := true } }
  | _ =>
    if s.speed.loaded = true ∧ s.speed.working > s.speed.stored then
      let t := withdrawScheduled s
      { t with speed := { t.speed with parking := .waiting } }
    else { s with speed := { s.speed with parking := .done } }

/-- R159: the Power Controller asks for the fault flush at an entry to PARKING.  The record writer's waiting items are withdrawn
and marked where the fault part becomes waiting at this entry.  Where a further part is queued behind one in flight they stay
with the record writer, and a request that finds a further part already queued adds nothing: the model's choices (DESIGN
CHOICE, log entry 37). -/
def requestFaultFlush (s : State) : State :=
  match s.fault.part with
  | .waiting => s
  | .inFlight => { s with fault := { s.fault with partAgain := true } }
  | _ =>
    if s.fault.loaded = true ∧ (s.fault.dirtyItems ≠ [] ∨ s.writerFaultItems ≠ []) then
      let t := withdrawFaultItems s
      { t with fault := { (s.writerFaultItems.foldl (fun m i => m.mark i true) t.fault) with part := .waiting } }
    else { s with fault := { s.fault with part := .done } }

end Sys2Proof.Machine
end

