-- ==== Sys2Proof/Machine/FaultMemory.lean ====
section
/-!
DEFINITION. The Fault Memory (chapter 7): present and cleared notices, displacement, aging, loading the mirror, and the
marks a reset leaves.
-/

namespace Sys2Proof.Machine

/-- R150: the position that holds a code. -/
def FaultMemory.find (m : FaultMemory) (c : FaultCode) : Option (Fin 32) :=
  (indices 32).find? (fun p => m.record[p].any (fun r => decide (r.code = c)))

/-- R150: the lowest empty position. -/
def FaultMemory.lowestEmpty (m : FaultMemory) : Option (Fin 32) := (indices 32).find? (fun p => m.record[p].isNone)

/-- R153: whether a PASSIVE record yields its place before another: higher aging, then lower last odometer. -/
def FaultRec.yieldsBefore (a b : FaultRec) : Bool :=
  decide (a.aging > b.aging) || (a.aging == b.aging && decide (a.lastOdo < b.lastOdo))

/-- R153: the position of the record to displace; equals go to the lower position, which is met first. -/
def FaultMemory.displaced (m : FaultMemory) : Option (Fin 32) :=
  (indices 32).foldl (fun best p =>
    match m.record[p] with
    | none => best
    | some r =>
      if r.active then best
      else match best with
        | none => some p
        | some q => if m.record[q].any (fun b => r.yieldsBefore b) then some p else best) none

/-- R148: freeze data and odometer as they stand now. -/
def State.freezeNow (s : State) : Freeze :=
  { odometer := s.speed.working, speed := s.speed.estimate, supply := (s.handed supplyChannel).value,
    mode := s.power.mode.code }

/-- R151: the record a creation makes. -/
def newFaultRec (c : FaultCode) (f : Freeze) (context : Option (Nat × Nat)) : FaultRec :=
  { code := c, active := true, count := 1, aging := 0, firstOdo := f.odometer, lastOdo := f.odometer, speed := f.speed,
    supply := f.supply, mode := f.mode, context := context }

/-- R151, R153, R157, R158: a record put at a position.  In an empty position the record count changes, which marks the
header; a displaced record's erasure marks the position.  Loaded, the position and then the header go to the record
writer; unloaded, both are marked dirty. -/
def createAt (p : Fin 32) (r : FaultRec) (s : State) : State :=
  let displaces := s.fault.record[p].isSome
  let m := { s.fault with record := s.fault.record.set p (some r), lastChange := some (p, r.code) }
  let marked :=
    if m.loaded then
      if displaces then m.mark (.position p) true else m.mark .header true
    else (m.mark (.position p) true).mark .header true
  let t := raiseTopic .faults { s with fault := marked }
  if m.loaded then storePump pumpRounds (addItem .header (addItem (.position p) t)) else t

/-- R151: a present notice taken by the mirror, with the freeze data it carries. -/
def takePresent (c : FaultCode) (f : Freeze) (context : Option (Nat × Nat)) (s : State) : State :=
  match s.fault.find c with
  | some p =>
    match s.fault.record[p] with
    | none => s
    | some r =>
      if r.active then s
      else
        let r' := { r with active := true, count := min 255 (r.count + 1), lastOdo := f.odometer, aging := 0,
                           context := if c.source = .doorway then context else r.context }
        raiseTopic .faults { s with fault :=
          { (s.fault.mark (.position p) true) with
            record := s.fault.record.set p (some r'), lastChange := some (p, c) } }
  | none =>
    match s.fault.lowestEmpty with
    | some p => createAt p (newFaultRec c f context) s
    | none =>
      match s.fault.displaced with
      | some p => createAt p (newFaultRec c f context) s
      | none =>
        let t := { s with fault := { (s.fault.mark .header true) with overflow := true } }
        if s.fault.overflow then t else raiseTopic .faults t

/-- R152: a cleared notice taken by the mirror. -/
def takeCleared (c : FaultCode) (s : State) : State :=
  match s.fault.find c with
  | none => s
  | some p =>
    match s.fault.record[p] with
    | none => s
    | some r =>
      if r.active then
        raiseTopic .faults { s with fault :=
          { (s.fault.mark (.position p) true) with
            record := s.fault.record.set p (some { r with active := false }), lastChange := some (p, c) } }
      else s

/-- R155: a present notice held until the mirror loads; the first one for a code fixes the freeze data. -/
def holdPresent (c : FaultCode) (context : Option (Nat × Nat)) (s : State) : State :=
  let held :=
    if s.fault.held.any (fun h => decide (h.code = c)) then
      s.fault.held.map (fun h => if h.code = c then { h with cleared := false } else h)
    else s.fault.held ++ [{ code := c, cleared := false, freeze := s.freezeNow, context := context }]
  { s with fault := { s.fault with held := held } }

/-- R155: a cleared notice held; a code without an item makes none. -/
def holdCleared (c : FaultCode) (s : State) : State :=
  { s with fault := { s.fault with
      held := s.fault.held.map (fun h => if h.code = c then { h with cleared := true } else h) } }

/-- R149: a present notice at its arrival. -/
def faultPresent (c : FaultCode) (context : Option (Nat × Nat)) (s : State) : State :=
  if s.fault.loading then holdPresent c context s else takePresent c s.freezeNow context s

/-- R149: a cleared notice at its arrival. -/
def faultCleared (c : FaultCode) (s : State) : State :=
  if s.fault.loading then holdCleared c s else takeCleared c s

/-- A notice of a source: present or cleared, under a code without context. -/
structure Notice where
  present : Bool
  code : FaultCode
  deriving DecidableEq, Repr

/-- Notices taken in order. -/
def takeNotices (ns : List Notice) (s : State) : State :=
  ns.foldl (fun st n => if n.present then faultPresent n.code none st else faultCleared n.code st) s

/-- R154: one position at a run start. -/
def agePosition (s : State) (p : Fin 32) : State :=
  match s.fault.record[p] with
  | none => s
  | some r =>
    if r.active then s
    else
      let m := { (s.fault.mark (.position p) true) with lastChange := some (p, r.code) }
      if r.aging + 1 ≥ 40 then
        raiseTopic .faults { s with fault := { (m.mark .header true) with record := s.fault.record.set p none } }
      else
        raiseTopic .faults { s with fault :=
          { m with record := s.fault.record.set p (some { r with aging := r.aging + 1 }) } }

/-- R154: the run start: every PASSIVE record ages.  That they age in position order, so that the last change names
the highest position aged, is the model's choice (DESIGN CHOICE, log entry 36). -/
def ageFaults (s : State) : State := (indices 32).foldl agePosition s

/-! ### Loading (R156) -/

/-- R149: whether a code names a source kind, an index within its range and a fault kind allowed for it. -/
def FaultCode.valid (c : FaultCode) : Bool :=
  match c.source, c.kind with
  | .channel, .openLine => decide (c.index < 38)
  | .channel, .shortGnd => decide (c.index < 38)
  | .channel, .shortBat => decide (c.index < 38)
  | .lamp, .overcurrent => decide (c.index < 16)
  | .lamp, .lampFail => decide (c.index < 12)
  | .doorway, .contradiction => decide (c.index < 4)
  | .store, .raised => c.index == 0
  | .warning, .raised => decide (c.index < 56)
  | _, _ => false

/-- The byte at an offset of a list of bytes, as a number. -/
def at1 (bs : List Byte) (o : Nat) : Nat := (bs.getD o 0#8).toNat
def at2 (bs : List Byte) (o : Nat) : Nat := at1 bs o * 256 + at1 bs (o + 1)
def at4 (bs : List Byte) (o : Nat) : Nat := at2 bs o * 65536 + at2 bs (o + 2)

/-- R156: the valid record that 48 bytes of a position hold, if they hold one. -/
def parsePosition (bs : List Byte) : Option FaultRec :=
  match FaultSource.ofCode (at1 bs 1), FaultKind.ofCode (at1 bs 3) with
  | some src, some kind =>
    let code : FaultCode := { source := src, index := at1 bs 2, kind := kind }
    let r : FaultRec :=
      { code := code, active := at1 bs 4 == 0, count := at1 bs 5, aging := at1 bs 6, firstOdo := at4 bs 7,
        lastOdo := at4 bs 11, speed := at2 bs 15, supply := at2 bs 17, mode := at1 bs 19,
        context := if at1 bs 20 = 1 then some (at1 bs 21, at1 bs 22) else none }
    if at1 bs 0 == 1 && sum8 bs == 0 && code.valid && decide (at1 bs 4 ≤ 1) && decide (1 ≤ r.count) &&
       decide (r.aging ≤ 39) && decide (r.firstOdo ≤ r.lastOdo) && decide (r.lastOdo ≤ 99999999) &&
       (at1 bs 20 == if src = .doorway then 1 else 0)
    then some r else none
  | _, _ => none

/-- The 48 bytes of position `p` in the bytes of the FAULTS area (R156). -/
def areaPosition (bytes : List Byte) (p : Nat) : List Byte := (bytes.drop (64 + 48 * p)).take 48

/-- R156: whether a valid record at `p` gives way to an equal code at `q`. -/
def givesWay (r : FaultRec) (p : Nat) (x : FaultRec) (q : Nat) : Bool :=
  decide (x.code = r.code) && q != p &&
  (decide (x.lastOdo > r.lastOdo) || (x.lastOdo == r.lastOdo && decide (q < p)))

/-- R156: the mirror that the read bytes give.  The header's overflow marker is numbered as R150 lists its values, set 0
and clear 1 (log entry 9). -/
def loadMirror (bytes : List Byte) (m : FaultMemory) : FaultMemory :=
  let parsed := fun (p : Nat) => parsePosition (areaPosition bytes p)
  let loses := fun (p : Nat) (r : FaultRec) =>
    (List.range 32).any (fun q => (parsed q).any (fun x => givesWay r p x q))
  let rec1 := fun (p : Nat) =>
    match parsed p with
    | some r => if loses p r then none else some { r with active := false }
    | none => none
  let records : Vector (Option FaultRec) 32 := Vector.ofFn (fun p => rec1 p.val)
  let dirty : Vector Bool 32 :=
    Vector.ofFn (fun p => (parsed p.val).any (fun r => r.active || loses p.val r))
  let header := bytes.take 64
  let headerValid := sum8 header == 0 && decide (at1 header 1 ≤ 1) && decide (at1 header 0 ≤ 32)
  let loadedCount := (records.toList.filter (fun r => r.isSome)).length
  { m with record := records, dirty := dirty, overflow := headerValid && at1 header 1 == setClearCode true,
           headerDirty := !headerValid || at1 header 0 != loadedCount, loading := false, loaded := true }

/-- R156: the mirror after a read that ended in STORE_FAULT. -/
def unloadedMirror (m : FaultMemory) : FaultMemory :=
  { m with record := Vector.replicate 32 none, overflow := false, loading := false, loaded := false }

/-- R155: one held item taken: a present notice with its own freeze data, then a cleared one if that was its last. -/
def takeHeld (s : State) (h : HeldNotice) : State :=
  let t := takePresent h.code h.freeze h.context s
  if h.cleared then takeCleared h.code t else t

/-- R155: the held notices taken in the order they were made. -/
def takeHeldNotices (s : State) : State :=
  s.fault.held.foldl takeHeld { s with fault := { s.fault with held := [] } }

/-! ### Resets (R160) -/

/-- R160: a record after WAKE or RESTART, with whether it became PASSIVE. -/
def FaultRec.passive (r : FaultRec) : FaultRec := { r with active := false }

/-- R160: what a waiting or in-flight access of the store leaves to be written again. -/
def Purpose.leavesDirty (inFlight : Bool) (p : Purpose) (m : FaultMemory) : FaultMemory :=
  match p with
  | .record item => m.mark item true
  | .parkItem item => if inFlight then m.mark item true else m
  | .faultClear => m.markAll true
  | _ => m

/-- R160: the Fault Memory after WAKE or RESTART. -/
def FaultMemory.afterReset (m : FaultMemory) (c : StoreController) : FaultMemory :=
  let m1 := m.items.foldl (fun a i => a.mark i true) m
  let m2 := match c.inFlight with
    | some a => a.purpose.leavesDirty true m1
    | none => m1
  let m3 := [c.waiting.parkFlush, c.waiting.record, c.waiting.service].foldl (fun a p =>
    match p with
    | some x => x.leavesDirty false a
    | none => a) m2
  { m3 with
    dirty := Vector.ofFn (fun p => m3.dirty[p] || m3.record[p].any (fun r => r.active)),
    record := Vector.ofFn (fun p => m3.record[p].map FaultRec.passive),
    held := [], items := [], part := .none, partItems := [], partAgain := false }

end Sys2Proof.Machine
end

