-- ==== Sys2Proof/Machine/Outputs.lean ====
section
/-!
DEFINITION. The Output Unit (chapter 6): the chime arbiter, the demand evaluation of every output, and the protection
and open-load judgement of the lamps.
-/

namespace Sys2Proof.Machine

/-- One lamp's record changed. -/
def State.modLamp (s : State) (l : Fin 16) (f : Lamp → Lamp) : State := { s with out := { s.out with lamp := upd s.out.lamp l f } }

/-- The chime arbiter changed. -/
def State.modChime (s : State) (f : Chime → Chime) : State := { s with out := { s.out with chime := f s.out.chime } }

/-! ### Chime (R142 to R144) -/

/-- R142: a one-shot at its start. -/
def startShot (p : ChimePattern) : Playing := .oneshot p p.shotLength

/-- R143: the chosen standing pattern plays on, or starts a cycle from its beginning. -/
def playStanding (p : ChimePattern) (now : Playing) : Playing :=
  match now with
  | .standing q t => if q = p then .standing q t else .standing p 0
  | _ => .standing p 0

/-- R143: the higher of the two standing demands; the Doorway Monitor's is REPEAT_FAST, of rank 1. -/
def Chime.standing (c : Chime) : Option ChimePattern := if c.doorStanding then some .repeatFast else c.warnStanding

/-- R143: a decision with no one-shot playing. -/
def Chime.decide (c : Chime) : Chime :=
  match c.standing, c.pendingShot with
  | none, none => { c with playing := .none }
  | none, some q => { c with playing := startShot q, pendingShot := none }
  | some p, none => { c with playing := playStanding p c.playing }
  | some p, some q =>
    if q = p then { c with playing := playStanding p c.playing, pendingShot := none }
    else if q.rank < p.rank then { c with playing := startShot q, pendingShot := none }
    else { c with playing := playStanding p c.playing }

def Playing.isShot : Playing → Bool
  | .oneshot _ _ => true
  | _ => false

/-- R143, R144: a decision where one is due: no one-shot plays and no override stands. -/
def chimeDecide (s : State) : State :=
  if s.chimeOverridden || s.out.chime.playing.isShot then s else s.modChime Chime.decide

/-- R143: a one-shot delivered; under an override it is discarded (R144). -/
def deliverShot (p : ChimePattern) (s : State) : State :=
  if s.chimeOverridden then s else chimeDecide (s.modChime (fun c => { c with pendingShot := some p }))

/-- R143: the Warning Manager's standing demand as delivered. -/
def setWarnStanding (d : Option ChimePattern) (s : State) : State :=
  if s.out.chime.warnStanding = d then s else chimeDecide (s.modChime (fun c => { c with warnStanding := d }))

/-- R143: the Doorway Monitor's standing demand as delivered. -/
def setDoorStanding (on : Bool) (s : State) : State :=
  if s.out.chime.doorStanding = on then s else chimeDecide (s.modChime (fun c => { c with doorStanding := on }))

/-- R144: the chime takes a change of its override, from the setting it had before. -/
def chimeOverrideChange (before : Option Setting) (s : State) : State :=
  match before, s.overrideOf .chime with
  | none, none => s
  | some _, none => chimeDecide s
  | _, some st =>
    s.modChime (fun c =>
      { c with playing := .none, pendingShot := none,
               half := if st = .flash ∧ before = some .flash then c.half else { driven := true, elapsed := 0 } })

/-! ### Demand evaluation (R132 to R136, R145, R146) -/

/-- R132, R133: the combined demand of a lamp output. -/
def State.combined (s : State) (l : Fin 16) : Drive :=
  if h : l.val < 12 then
    match s.out.lamp[l].fn with
    | .absent => .off
    | .telltale => if s.out.lamp[l].warnDemand || s.out.lamp[l].displayDemand then .on else .off
    | .door d => if s.doors.door[d].state = .locked then .off else .on
    | .off => .off
  else
    let d : Fin 4 := ⟨l.val - 12, by omega⟩
    if s.doors.door[d].phase.flashes then .flash else .off

def Setting.drive : Setting → Drive
  | .on => .on
  | .off => .off
  | .flash => .flash

/-- R130, R136: the drive of a lamp output: the override if one stands, else the combined demand. -/
def State.driveOf (s : State) (l : Fin 16) : Drive :=
  match s.overrideOf (.lamp l) with
  | some o => o.drive
  | none => s.combined l

/-- R132: a drive taken by a lamp; a drive that stays FLASH keeps its running flash. -/
def Lamp.take (d : Drive) (L : Lamp) : Lamp :=
  { L with drive := d, half := if d = .flash ∧ L.drive = .flash then L.half else { driven := true, elapsed := 0 } }

/-- R136, R145: an interlock output, from its override or its demand. -/
def State.interlock (s : State) (o : OutputId) (demand : Bool) : Bool :=
  match s.overrideOf o with
  | some .on => true
  | some _ => false
  | none => demand

/-- R132: the demand evaluation of every output. -/
def outputEval (s : State) : State :=
  { s with out :=
    { s.out with
      lamp := updAll s.out.lamp (fun l L => L.take (s.driveOf l))
      night := s.roleOn .headlamp
      dbOut := s.interlock .db s.doors.dbDemand
      diOut := s.interlock .di s.doors.diDemand
      holdOut := s.power.holdDemand } }

/-! ### Protection (R137 to R140) and open load (R141) -/

def overcurrentCode (l : Fin 16) : FaultCode := { source := .lamp, index := l.val, kind := .overcurrent }
def lampFailCode (l : Fin 16) : FaultCode := { source := .lamp, index := l.val, kind := .lampFail }

/-- R138: what a trip makes of a lamp record. -/
def Lamp.trip (L : Lamp) : Lamp :=
  match L.protection with
  | .normal => { L with protection := .shutdown, retry := 0, wait := some 0, ocCount := L.tripAt }
  | _ => { L with protection := .shutdown, wait := if L.retry ≥ 3 then none else some 0, ocCount := L.tripAt }

/-- R138: a trip, with its notice when the output trips from NORMAL. -/
def tripLamp (l : Fin 16) (s : State) : State :=
  let t := s.modLamp l Lamp.trip
  if s.out.lamp[l].protection = .normal then faultPresent (overcurrentCode l) none t else t

/-- R138: the wait's expiry. -/
def Lamp.retryNow (L : Lamp) : Lamp :=
  { L with protection := .retry, retry := L.retry + 1, ocCount := 0, proof := 0, wait := none }

/-- R139: the proof of a retry. -/
def Lamp.proven (L : Lamp) : Lamp := { L with protection := .normal, retry := 0, proof := 0 }

def proveLamp (l : Fin 16) (s : State) : State := faultCleared (overcurrentCode l) (s.modLamp l Lamp.proven)

/-- R140: a lamp output returned to NORMAL. -/
def Lamp.restored (L : Lamp) : Lamp :=
  { L with protection := .normal, ocCount := 0, retry := 0, proof := 0, wait := none }

def restoreLamp (s : State) (l : Fin 16) : State :=
  if s.out.lamp[l].protection = .normal then s else faultCleared (overcurrentCode l) (s.modLamp l Lamp.restored)

/-- R140: the run start at the Output Unit.  That the cleared notices of several lamps go out in index order, so that the last
change names the highest lamp returned, is the model's choice (DESIGN CHOICE, log entry 36). -/
def restoreLamps (s : State) : State := outputEval ((indices 16).foldl restoreLamp s)

/-- R141: a change of open state. -/
def Lamp.flipOpen (L : Lamp) : Lamp := { L with openState := !L.openState, openCount := 0 }

def flipOpenLamp (l : Fin 16) (s : State) : State :=
  let t := s.modLamp l Lamp.flipOpen
  if s.out.lamp[l].openState then faultCleared (lampFailCode l) t else faultPresent (lampFailCode l) none t

/-- R137: the overcurrent count after a reading. -/
def Lamp.countCurrent (reading : Nat) (L : Lamp) : Lamp :=
  { L with current := reading, ocCount := if reading ≥ L.ocLevel then min L.tripAt (L.ocCount + 1) else L.ocCount - 1 }

/-- R137 to R139: the protection's part of a current sample. -/
def protectSample (l : Fin 16) (reading : Nat) (s0 : State) : State :=
  let s := s0.modLamp l (Lamp.countCurrent reading)
  let L := s.out.lamp[l]
  if L.ocCount ≥ L.tripAt then tripLamp l s
  else if L.protection = .retry then
    let t := s.modLamp l (fun x => { x with proof := x.proof + 1 })
    if L.proof + 1 ≥ 500 then proveLamp l t else t
  else s

/-- R141: the open-load part of a current sample. -/
def openSample (l : Fin 16) (reading : Nat) (s : State) : State :=
  let L := s.out.lamp[l]
  let counts := if L.openState then decide (reading ≥ L.openLevel) else decide (reading < L.openLevel)
  if counts then
    let t := s.modLamp l (fun x => { x with openCount := x.openCount + 1 })
    if L.openCount + 1 ≥ 50 then flipOpenLamp l t else t
  else s.modLamp l (fun x => { x with openCount := 0 })

/-- R137, R141: one lamp output at a sample event, energised or not as `energised` says of the event.  That its overcurrent
part, with its notice, comes before its open-load part is the model's choice (DESIGN CHOICE, log entry 36). -/
def lampSample (energised : Bool) (l : Fin 16) (reading : Nat) (s : State) : State :=
  if energised then
    let t := protectSample l reading s
    if l.val < 12 ∧ s.power.mode ≠ .crank then openSample l reading t else t
  else s

/-- R131: a lamp output takes its configuration items. -/
def Lamp.configure (c : BlockConfig) (l : Fin 16) (L : Lamp) : Lamp :=
  { L with
    fn := if h : l.val < 12 then c.lampFn[l.val] else L.fn
    openLevel := if h : l.val < 12 then c.openLevel[l.val] else 0
    tripAt := c.tripAt[l], ocLevel := c.ocLevel[l] }

/-- R131, R137: the lamps take their configuration; a counter at or above a new threshold is set to it and the output
trips. -/
def configureLamp (c : BlockConfig) (s : State) (l : Fin 16) : State :=
  let t := s.modLamp l (Lamp.configure c l)
  if t.out.lamp[l].ocCount ≥ c.tripAt[l] then
    if t.out.lamp[l].protection = .shutdown then t.modLamp l (fun L => { L with ocCount := c.tripAt[l] })
    else tripLamp l t
  else t

end Sys2Proof.Machine
end

