-- ==== Sys2Proof/Machine/Doorways.lean ====
section
/-!
DEFINITION. The Doorway Monitor (chapter 4): handle levels and release phases, and the evaluation of R76.
-/

namespace Sys2Proof.Machine

/-- One doorway's record changed. -/
def State.modDoor (s : State) (d : Fin 4) (f : Doorway → Doorway) : State :=
  { s with doors := { s.doors with door := upd s.doors.door d f } }

/-! ### Release phases (R84, R85, R87, R89) -/

/-- R85: the phase after a handle level is taken. -/
def ReleasePhase.takeLevel (masked level : Bool) : ReleasePhase → ReleasePhase
  | .none => if level && !masked then .pulled else .none
  | .pulled => if level then .pulled else .restoredUnacked
  | .acked => if level then .acked else .none
  | .restoredUnacked => if level then .pulled else .restoredUnacked

/-- R85: a handle level that is taken as a change; a DISABLED doorway takes none (R78). -/
def takeHandle (d : Fin 4) (s : State) : State :=
  s.modDoor d (fun D =>
    if D.state = .disabled then D else { D with phase := D.phase.takeLevel (s.masked d) D.sense.out })

/-- R7: one sample of an integral filter: the new count and output. -/
def filterStep (threshold : Nat) (active : Bool) (count : Nat) (out : Bool) : Nat × Bool :=
  let c := if active then min threshold (count + 1) else count - 1
  (c, if c ≥ threshold then true else if c = 0 then false else out)

/-- R21, R22: an H record after one sample. -/
def HandleSense.sample (threshold : Nat) (level : Bool) (h : HandleSense) : HandleSense :=
  { raw := level, count := (filterStep threshold level h.count h.out).1,
    out := (filterStep threshold level h.count h.out).2 }

/-- R21, R89: one doorway's H record at a sample event at which its line is not driven high: a change of the output
after the re-sense, or the level at the tenth sample, is taken as a handle change. -/
def handleSample (level : Bool) (d : Fin 4) (s : State) : State :=
  let D := s.doors.door[d]
  let t := s.modDoor d (fun x => { x with sense := x.sense.sample 10 level, resense := min 10 (x.resense + 1) })
  if D.resense = 9 ∨ (D.resense ≥ 10 ∧ (D.sense.sample 10 level).out ≠ D.sense.out) then takeHandle d t else t

/-- R87: the end of an override on a handle line. -/
def endMask (s : State) (d : Fin 4) : State :=
  s.modDoor d (fun D =>
    if D.phase = .none ∧ D.sense.out = true ∧ D.state ≠ .disabled then { D with phase := .pulled } else D)

/-! ### The evaluation (R76 to R82, R91 to R95) -/

/-- R81: a declared condition on one of a doorway's role channels. -/
def State.doorLineFault (s : State) (d : Fin 4) : Bool :=
  (s.role (.closed d)).cond.declared || (s.role (.locked d)).cond.declared || (s.role (.edge d)).cond.declared

/-- R77: the state of a doorway whose other fields are up to date. -/
def State.doorState (s : State) (d : Fin 4) (D : Doorway) : DoorState :=
  if s.store.cfgState = .ready then
    if D.configured ≠ some true then .disabled
    else if D.phase ≠ .none then .released
    else if D.confirmed || D.lineFault then .fault
    else if s.roleOn (.closed d) then (if s.roleOn (.locked d) then .locked else .closed)
    else if s.roleOn (.edge d) then .obstructed
    else .openDoor
  else .unconfigured

/-- R76 steps 2 to 4 for one doorway. -/
def State.evalDoor (s : State) (d : Fin 4) (D : Doorway) : Doorway :=
  let live := decide (s.store.cfgState = .ready) && decide (D.configured = some true)
  let contradicts := live && s.roleOn (.locked d) && !s.roleOn (.closed d)
  let E := { D with
    timer := if contradicts then (if D.confirmed then none else some (D.timer.getD 0)) else none
    confirmed := D.confirmed && contradicts
    lineFault := live && s.doorLineFault d
    phase := if s.store.cfgState = CfgState.ready ∧ D.configured ≠ some true then .none else D.phase }
  { E with state := s.doorState d E }

/-- R93: a doorway that lets a standing DB demand release. -/
def DoorState.shut : DoorState → Bool
  | .disabled => true
  | .closed => true
  | .locked => true
  | _ => false

/-- R91: a doorway that holds DI on. -/
def DoorState.holdsDrive : DoorState → Bool
  | .disabled => false
  | .locked => false
  | _ => true

/-- R76 steps 1 to 5: the monitor after an evaluation. -/
def State.evalDoors (s : State) : DoorwayMonitor :=
  let ramp := s.roleOn .ramp
  let kneel := s.roleOn .kneel
  let door := updAll s.doors.door (fun d D => s.evalDoor d D)
  let cause := door.toList.any (fun D => D.state.callsBrake) || ramp || kneel
  let shut := door.toList.all (fun D => D.state.shut) && !ramp && !kneel
  let brakeMoving := s.speed.moving || !s.speed.settled
  { s.doors with
    door := door, ramp := ramp, kneel := kneel, brakeMoving := brakeMoving, dbCause := cause
    dbDemand := if s.doors.dbDemand then !shut else cause && !brakeMoving
    diDemand := door.toList.any (fun D => D.state.holdsDrive) || ramp || kneel
    openMoving := cause && s.speed.moving }

/-- R98: the reported items of one doorway. -/
def State.doorItems (s : State) (d : Fin 4) : DoorState × ReleasePhase × Bool × Bool × Bool :=
  let D := s.doors.door[d]
  (D.state, D.phase, s.masked d, D.confirmed, D.lineFault)

/-- R98: the items whose change makes DOORS pending. -/
def State.doorsItems (s : State) : List (DoorState × ReleasePhase × Bool × Bool × Bool) × Bool × Bool × Bool × Bool × Bool :=
  ((indices 4).map s.doorItems, s.doors.ramp, s.doors.kneel, s.doors.dbDemand, s.doors.diDemand, s.doors.openMoving)

def contradictionCode (d : Fin 4) : FaultCode := { source := .doorway, index := d.val, kind := .contradiction }

/-- A doorway's context for its fault record: its state and phase as R219's bytes. -/
def Doorway.context (D : Doorway) : Option (Nat × Nat) := some (D.state.code, D.phase.code)

/-- R80: the contradiction notice of one doorway, against the state before the event. -/
def contradictionNotice (s0 s : State) (d : Fin 4) : State :=
  let was := s0.doors.door[d].confirmed
  let now := s.doors.door[d].confirmed
  if now && !was then faultPresent (contradictionCode d) s.doors.door[d].context s
  else if was && !now then faultCleared (contradictionCode d) s
  else s

/-- R76 step 6: the deliveries, against the state before the event.  That the contradiction notices of one evaluation go out
in the order DW0 to DW3 is the model's choice (DESIGN CHOICE, log entry 36). -/
def doorDeliveries (s0 s : State) : State :=
  let t := (indices 4).foldl (contradictionNotice s0) (setDoorStanding s.anyFlashing (outputEval s))
  if t.doorsItems = s0.doorsItems then t else raiseTopic .doors t

/-- R76: an evaluation, where `s0` is the state before the event that calls for it. -/
def doorEvalFrom (s0 s : State) : State := doorDeliveries s0 { s with doors := s.evalDoors }

/-- R76: an evaluation at an event that changed nothing the monitor owns. -/
def doorEval (s : State) : State := doorEvalFrom s s

end Sys2Proof.Machine
end

