-- ==== Sys2Proof/Machine/Signals.lean ====
section
/-!
DEFINITION. The Signal Table's sampling, qualification, substitution and crank suspension (chapter 1).
-/

namespace Sys2Proof.Machine

/-- A channel's record changed. -/
def State.modChan (s : State) (i : Fin 40) (f : Channel → Channel) : State :=
  { s with sig := { s.sig with chan := upd s.sig.chan i f } }

/-! ### Filters (R6 to R8) -/

/-- R6, R7: a SWITCH channel's filter after a sample of its comparator. -/
def Channel.switchStep (g : ChanCfg) (level : Bool) (c : Channel) : Channel :=
  let f := filterStep g.count (level != g.activeLow) c.filterCount (c.filterOut == 1)
  { c with raw := if level then 1 else 0, filterCount := f.1, filterOut := if f.2 then 1 else 0 }

/-- R8: the average's next output. -/
def averageStep (shift sample out : Nat) : Nat :=
  let d : Int := (sample : Int) - out
  let step := d.tdiv (2 ^ shift : Nat)
  let move := if step = 0 then (if d > 0 then 1 else if d < 0 then -1 else 0) else step
  ((out : Int) + move).toNat

/-- R8: an ANALOGUE channel's average after a sample. -/
def Channel.analogueStep (g : ChanCfg) (sample : Nat) (c : Channel) : Channel :=
  { c with raw := sample, seeded := true,
           filterOut := if c.seeded then averageStep g.count sample c.filterOut else sample }

/-! ### Qualification (R10 to R12) and substitution (R14, R15) -/

/-- R10: the class of a quantity under the windows. -/
def ChanCfg.classOf (g : ChanCfg) (q : Nat) : SampleClass :=
  if g.gndMax.any (fun x => decide (q ≤ x)) then .shortGnd
  else if g.batMin.any (fun x => decide (q ≥ x)) then .shortBat
  else if g.openLo.any (fun x => decide (x ≤ q)) && g.openHi.any (fun x => decide (q ≤ x)) then .openLine
  else .normal

def SampleClass.cond : SampleClass → LineCond
  | .normal => .normal
  | .openLine => .openLine
  | .shortGnd => .shortGnd
  | .shortBat => .shortBat

/-- R11, R12: the sample class that restarts no count: NORMAL while nothing is declared, the declared one otherwise. -/
def Channel.standingClass (c : Channel) (cls : SampleClass) : Bool :=
  if c.cond.declared then cls.cond == c.cond else cls == .normal

/-- R11, R12: the count toward a class. -/
def Channel.countToward (cls : SampleClass) (c : Channel) : Channel :=
  if c.standingClass cls then { c with qual := 0, cand := none }
  else if c.cand = some cls then { c with qual := c.qual + 1 }
  else { c with qual := 1, cand := some cls }

/-- R11, R12: the condition that a count of 50 makes. -/
def Channel.settleCond (c : Channel) : Channel :=
  if c.qual ≥ 50 then { c with cond := (c.cand.map SampleClass.cond).getD c.cond, qual := 0, cand := none } else c

/-- R14, R15: the value at a declaration, from the value the record held. -/
def ChanCfg.substituteFor (g : ChanCfg) (held : Nat) : Nat :=
  match g.policy with
  | .hold => held
  | .forceOff => 0
  | .forceOn => 1
  | .substitute v => v

/-- R3, R14, R15: the record's value after the qualification, with the condition it had before. -/
def Channel.takeValue (g : ChanCfg) (before : LineCond) (c : Channel) : Channel :=
  if c.cond.declared then (if before.declared then c else { c with value := g.substituteFor c.value })
  else { c with value := c.filterOut }

/-- R11, R12, R14, R15: the qualification of one sample of a monitored channel, and the value after it. -/
def Channel.qualify (g : ChanCfg) (cls : SampleClass) (c : Channel) : Channel :=
  ((c.countToward cls).settleCond).takeValue g c.cond

/-- R5: one channel at a sample event, with the reading of its line and of its sense voltage. -/
def Channel.sample (frozen isSwitch : Bool) (reading sense : Nat) (c : Channel) : Channel :=
  match c.cfg with
  | none => c
  | some g =>
    if g.diag && frozen then c
    else
      let f := if isSwitch then c.switchStep g (reading == 1) else c.analogueStep g reading
      if g.diag then
        let t := if isSwitch then { f with sense := sense } else f
        t.qualify g (g.classOf (if isSwitch then sense else reading))
      else { f with value := f.filterOut }

/-! ### Notices (R13) -/

def condFault (c : LineCond) : Option FaultKind :=
  match c with
  | .openLine => some .openLine
  | .shortGnd => some .shortGnd
  | .shortBat => some .shortBat
  | _ => none

def channelNotice (i : Fin 40) (present : Bool) (c : LineCond) : List Notice :=
  match condFault c with
  | some k => [{ present := present, code := { source := .channel, index := i.val, kind := k } }]
  | none => []

/-- R11 to R13: the notices of one channel's change of condition: a clearing, then a declaration. -/
def condNotices (i : Fin 40) (before after : LineCond) : List Notice :=
  if before = after then [] else channelNotice i false before ++ channelNotice i true after

/-- R106: a channel's line-fault marker after a change of its condition. -/
def markerAfter (before after : LineCond) (m : Bool) : Bool :=
  if before = after then m else if after.declared then true else if before.declared then false else m

/-- R13: the declarations and clearings between two Signal Tables, delivered in channel order. -/
def deliverConditions (t0 : SignalTable) (s : State) : State :=
  let u := takeNotices (((indices 40).map (fun i => condNotices i t0.chan[i].cond s.sig.chan[i].cond)).flatten) s
  { u with warn :=
    { u.warn with marker := updAll u.warn.marker (fun i m => markerAfter t0.chan[i].cond s.sig.chan[i].cond m) } }

/-! ### The channels of a sample event -/

/-- A channel's reading at a sample event: the comparator level or the converter's count. -/
def sampleRead (inputs : SampleInputs) (i : Fin 40) : Nat :=
  if h : i.val < 30 then (if inputs.switches.getLsbD i.val then 1 else 0)
  else if h2 : i.val < 38 then (inputs.analogue[i.val - 30]).toNat
  else 0

/-- The sense counts of a channel's line at a sample event. -/
def sampleSense (inputs : SampleInputs) (i : Fin 40) : Nat := if h : i.val < 30 then (inputs.sense[i.val]).toNat else 0

/-- R5: the Signal Table after its channels 0..37 are sampled. -/
def SignalTable.sample (inputs : SampleInputs) (t : SignalTable) : SignalTable :=
  { t with chan := updAll t.chan (fun i c =>
      if i.val < 38 then c.sample t.frozen (decide (i.val < 30)) (sampleRead inputs i) (sampleSense inputs i) else c) }

/-! ### Crank suspension (R17, R18) -/

/-- R17: a channel at the crank start. -/
def Channel.suspend (c : Channel) : Channel :=
  if c.monitored then { c with qual := 0, cand := none, cond := if c.cond.declared then c.cond else .suspended } else c

/-- R18: a channel at the settle's expiry. -/
def Channel.resume (c : Channel) : Channel :=
  if c.monitored then
    { c with qual := 0, cand := none, cond := if c.cond = .suspended then .normal else c.cond }
  else c

def SignalTable.crankStart (t : SignalTable) : SignalTable :=
  { chan := updAll t.chan (fun _ c => c.suspend), hold := .crank }

def SignalTable.crankEnd (t : SignalTable) : SignalTable := { t with hold := .settle 0 }

def SignalTable.settleEnd (t : SignalTable) : SignalTable :=
  { chan := updAll t.chan (fun _ c => c.resume), hold := .none }

/-- R23: a channel takes its configuration part. -/
def Channel.configure (g : ChanCfg) (c : Channel) : Channel :=
  { c with cfg := some g, cond := if g.diag then .normal else .unmonitored }

end Sys2Proof.Machine
end

