-- ==== Sys2Proof/Machine/Speed.lean ====
section
/-!
DEFINITION. The Speed Unit (chapter 2): edge capture, the estimates of each gauge frame, the flags, the meters, and the
odometer slots.
-/

namespace Sys2Proof.Machine

/-! ### Edge capture (R27, R28) -/

def SpeedUnit.capture (u : SpeedUnit) : PulseId → EdgeCapture
  | .pu0 => u.pu0
  | .pu1 => u.pu1

def SpeedUnit.setCapture (u : SpeedUnit) (p : PulseId) (e : EdgeCapture) : SpeedUnit :=
  match p with
  | .pu0 => { u with pu0 := e }
  | .pu1 => { u with pu1 := e }

/-- The Signal Table's channel of a pulse input. -/
def pulseChannel : PulseId → Fin 40
  | .pu0 => 38
  | .pu1 => 39

/-- R27: the edge threshold of a pulse channel, 2 until the configuration is taken. -/
def State.edgeThreshold (s : State) (p : PulseId) : Nat := (s.sig.chan[pulseChannel p].cfg.map (fun g => g.count)).getD 2

/-- R27: the edge filter after a sample. -/
def EdgeCapture.sample (threshold : Nat) (level : Bool) (e : EdgeCapture) : EdgeCapture :=
  { e with count := (filterStep threshold level e.count e.out).1, out := (filterStep threshold level e.count e.out).2 }

/-- R28: a filtered edge's timestamp enters the ring. -/
def EdgeCapture.stamp (now : Word) (e : EdgeCapture) : EdgeCapture :=
  { e with ring := (if e.ring.length ≥ 9 then e.ring.drop 1 else e.ring) ++ [now], last := some now }

/-- R27: the edge filter takes a new threshold at the end of the preload. -/
def EdgeCapture.rethreshold (threshold : Nat) (e : EdgeCapture) : EdgeCapture :=
  if e.count > threshold then { e with count := threshold, out := true } else e

/-! ### Distance (R36, R37) -/

/-- R36: a trip after one increment. -/
def tripNext (t : Nat) : Nat := if t ≥ 99999 then 0 else t + 1

/-- R37, R40: the scheduled write is queued with the record writer when it is due. -/
def scheduleWrite (s : State) : State :=
  if s.speed.working ≥ s.speed.stored + 10 ∧ s.speed.scheduled = .none then
    storePump pumpRounds (addItem .odo { s with speed := { s.speed with scheduled := .waiting } })
  else s

/-- R36: one increment of 0.1 km. -/
def increment (s : State) : State :=
  let t := { s with speed := { s.speed with tripA := tripNext s.speed.tripA, tripB := tripNext s.speed.tripB } }
  if s.speed.loaded = true ∧ s.speed.working < 99999999 then
    scheduleWrite { t with speed := { t.speed with working := t.speed.working + 1 } }
  else t

/-- R36: several increments at once. -/
def increments : Nat → State → State
  | 0, s => s
  | n + 1, s => increments n (increment s)

/-- R36: a filtered PU0 edge at the pulse accumulator. -/
def countPulse (s : State) : State :=
  let acc := s.speed.accumulator + 1
  match s.speed.pulseConst with
  | some P =>
    if acc ≥ P / 10 then increment { s with speed := { s.speed with accumulator := acc - P / 10 } }
    else { s with speed := { s.speed with accumulator := acc } }
  | none => { s with speed := { s.speed with accumulator := acc } }

/-- R28: everything a filtered edge does. -/
def filteredEdge (p : PulseId) (now : Word) (s : State) : State :=
  let e := s.speed.capture p
  let period : Nat := match e.last with
    | some t => (now - t).toNat
    | none => 0
  let t := { (s.modChan (pulseChannel p) (fun c => { c with raw := period })) with
    speed := s.speed.setCapture p (e.stamp now) }
  match p with
  | .pu0 => countPulse { t with speed := { t.speed with edges := min 2 (t.speed.edges + 1) } }
  | .pu1 => t

/-- R27: one channel's edge sample. -/
def edgeSample (p : PulseId) (level : Bool) (now : Word) (s : State) : State :=
  let e := s.speed.capture p
  let f := e.sample (s.edgeThreshold p) level
  let t := { s with speed := s.speed.setCapture p f }
  if f.out && !e.out then filteredEdge p now t else t

/-! ### Estimates (R28 to R34) -/

/-- R28: the timestamps left in a ring at a gauge frame. -/
def expire (now : Word) (ring : List Word) : List Word := ring.filter (fun t => decide ((now - t).toNat ≤ 1000000))

/-- R29, R30, R32: the bounded average of a ring, given the quotient of `k` edges over a span and over a gap. -/
def ringEstimate (now : Word) (average : Nat → Nat → Nat) (decay : Nat → Nat) (ring : List Word) : Nat :=
  match ring.head?, ring.getLast? with
  | some first, some last =>
    let k := ring.length - 1
    let span := (last - first).toNat
    let gap := (now - last).toNat
    if k = 0 then 0
    else if gap > span / k then min (average k span) (decay gap)
    else average k span
  | _, _ => 0

/-- R29 to R31: the speed estimate. -/
def speedEstimate (pulseConst : Option Nat) (now : Word) (ring : List Word) : Nat :=
  match pulseConst with
  | none => 0
  | some P =>
    let v := ringEstimate now
      (fun k T => if T = 0 then Config.zeroSpanSpeed k P else k * 360000000000 / (P * T))
      (fun g => 360000000000 / (P * g)) ring
    if v < 50 then 0 else min v 25000

/-- R32: the rate estimate. -/
def rateEstimate (now : Word) (ring : List Word) : Nat :=
  min 65535 (ringEstimate now (fun k T => if T = 0 then Config.zeroSpanRate k else k * 10000000 / T)
    (fun g => 10000000 / g) ring)

/-- R34: the moving flag. -/
def movingNext (before : Bool) (estimate : Nat) : Bool := if before then decide (estimate > 300) else decide (estimate > 500)

/-- R28 to R34: the Speed Unit after a gauge frame. -/
def SpeedUnit.frame (now : Word) (u : SpeedUnit) : SpeedUnit :=
  let r0 := expire now u.pu0.ring
  let r1 := expire now u.pu1.ring
  let v := speedEstimate u.pulseConst now r0
  let since := min 1000000 (u.sinceReset + 20000)
  { u with
    pu0 := { u.pu0 with ring := r0 }, pu1 := { u.pu1 with ring := r1 }, estimate := v, rate := rateEstimate now r1,
    sinceReset := since,
    settled := u.settled || (u.pulseConst.isSome && (decide (since ≥ 1000000) || decide (u.edges ≥ 2))),
    moving := movingNext u.moving v }

/-- R31, R32, R35: the frame at the Speed Unit, its writes of channels 38 and 39, and its deliveries to the Doorway
Monitor.  That one evaluation takes a change of the moving flag and of the settled state at one frame is the model's choice
(DESIGN CHOICE, log entry 36). -/
def speedFrame (now : Word) (s : State) : State :=
  let u := s.speed.frame now
  let t := ({ s with speed := u, timebase := now }.modChan 38 (fun c => { c with value := u.estimate })).modChan 39
    (fun c => { c with value := u.rate })
  if u.moving = s.speed.moving ∧ u.settled = s.speed.settled then t else doorEvalFrom s t

/-! ### Odometer slots (R38, R39) -/

/-- R38: the value of slot `i` in the 64 bytes of the ODO area, if the slot is valid. -/
def slotValue (bytes : List Byte) (i : Nat) : Option Nat :=
  let b := (bytes.drop (16 * i)).take 16
  if sum8 (b.take 5) = 0 ∧ at4 b 0 ≤ 99999999 ∧ b.length = 16 then some (at4 b 0) else none

/-- R39: the slot that holds the largest valid value, the lower index among equals. -/
def bestSlot (bytes : List Byte) : Option (Fin 4 × Nat) :=
  (indices 4).foldl (fun best i =>
    match slotValue bytes i.val with
    | none => best
    | some v =>
      match best with
      | none => some (i, v)
      | some (j, w) => if v > w then some (i, v) else some (j, w)) none

/-- R39: the odometer as it is loaded; `none` is a read that ended in STORE_FAULT. -/
def SpeedUnit.load (read : Option (List Byte)) (u : SpeedUnit) : SpeedUnit :=
  match read with
  | none => { u with working := 0, stored := 0, nextSlot := 0, loaded := false }
  | some bytes =>
    match bestSlot bytes with
    | some (i, v) => { u with working := v, stored := v, nextSlot := i + 1, loaded := true }
    | none => { u with working := 0, stored := 0, nextSlot := 0, loaded := true }

/-- R40: a slot write that succeeded. -/
def SpeedUnit.slotWritten (value : Nat) (u : SpeedUnit) : SpeedUnit :=
  { u with stored := value, nextSlot := u.nextSlot + 1 }

end Sys2Proof.Machine
end

