-- ==== Sys2Proof/Machine/Gauges.lean ====
section
/-!
DEFINITION. The Gauge Unit (chapter 3): the four-stage pipeline, the pointer states, and the events other blocks deliver.
-/

namespace Sys2Proof.Machine

/-- One gauge's record changed. -/
def State.modGauge (s : State) (g : Fin 6) (f : Gauge → Gauge) : State :=
  { s with gauges := { s.gauges with gauge := upd s.gauges.gauge g f } }

/-- Every gauge's record changed. -/
def State.modGauges (s : State) (f : Gauge → Gauge) : State :=
  { s with gauges := { s.gauges with gauge := updAll s.gauges.gauge (fun _ G => f G) } }

/-! ### The pipeline (R51 to R55) -/

/-- R52: stage 1, the face of an input value. -/
def stage1 (c : GaugeCfg) (v : Nat) : Nat :=
  let x : Int := (((v : Int) - c.offset) * c.gain + 512) / 1024
  if x < c.loLimit then c.loSet else if x > c.hiLimit then c.hiSet else min 10000 x.toNat

/-- 00_scope.md 5.3: a quotient rounded to nearest, halves away from zero. -/
def roundHalfAway (num : Int) (den : Nat) : Int :=
  if num ≥ 0 then (2 * num + den) / (2 * den) else -((2 * (-num) + den) / (2 * den))

/-- R53: the angle within a segment. -/
def segmentAngle (p q : Nat × Nat) (f : Nat) : Nat :=
  ((p.2 : Int) + roundHalfAway (((f : Int) - p.1) * ((q.2 : Int) - p.2)) (q.1 - p.1)).toNat

/-- R53: stage 2, the angle of a face. -/
def stage2 (points : List (Nat × Nat)) (f : Nat) : Nat :=
  match points with
  | [] => 0
  | [p] => p.2
  | p :: q :: rest => if f ≤ p.1 then p.2 else if f < q.1 then segmentAngle p q f else stage2 (q :: rest) f

/-- R54: stage 3, the damped target. -/
def stage3 (k angle target : Nat) : Nat :=
  let d : Int := (angle : Int) - target
  let step := (d * k).tdiv 16
  let move := if step = 0 then (if d > 0 then 1 else if d < 0 then -1 else 0) else step
  ((target : Int) + move).toNat

/-- R55: stage 4, the position moved toward the target. -/
def stage4 (slew position target : Nat) : Nat :=
  if position ≤ target then min target (position + slew) else max target (position - slew)

/-- R51: the input of stage 1, if there is one. -/
def State.gaugeInput (s : State) (G : Gauge) : Option Nat :=
  match G.active with
  | none => none
  | some c =>
    match c.source with
    | .channel ch => some (s.handed ch).value
    | .fed => if G.stale then none else G.fed

/-- R50: stages 1 and 2, where this frame computes them. -/
def Gauge.compute (c : GaugeCfg) (input : Option Nat) (G : Gauge) : Gauge :=
  if G.divider = 0 then
    let f := match input with
      | some v => stage1 c v
      | none => c.loSet
    { G with face := f, angle := stage2 c.points f, divider := (G.divider + 1) % c.divider }
  else { G with divider := (G.divider + 1) % c.divider }

/-! ### Entering states (R58, R59, R60, R70) -/

/-- R59: homing over a drive. -/
def Gauge.home (drive : Nat) (G : Gauge) : Gauge :=
  { G with state := .homing, known := false, position := 0, target := 0, homing := drive, homingDrive := drive,
           phase := .none }

/-- R60: TRACKING, or HELD under a crank hold; the divider counter starts from 0 (R50). -/
def Gauge.track (held : Bool) (G : Gauge) : Gauge := { G with state := if held then .held else .tracking, divider := 0 }

/-- R58, R64: DISABLED, with target 0. -/
def Gauge.disable (G : Gauge) : Gauge := { G with state := .disabled, target := 0, phase := .none }

/-- R58, R70: whether a gauge's position and target fit a sweep. -/
def Gauge.fits (sweep : Nat) (G : Gauge) : Bool := decide (G.position ≤ sweep) && decide (G.target ≤ sweep)

/-- R58, R70: an enabled gauge placed by what is known of its position. -/
def Gauge.place (held : Bool) (c : GaugeCfg) (G : Gauge) : Gauge :=
  if !G.known then G.home (c.sweep + 200) else if G.fits c.sweep then G.track held else G.home 4520

/-- R57: a stale gauge shows lo_set. -/
def Gauge.settleFace (G : Gauge) : Gauge :=
  match G.active with
  | some c => if G.stale then { G with face := c.loSet } else G
  | none => G

/-- R58: the state entered at the end of a preload; `cfg` is none under CONFIG_HOLD. -/
def Gauge.afterPreload (held : Bool) (cfg : Option GaugeCfg) (G : Gauge) : Gauge :=
  let A := { G with active := cfg, staged := none, divider := 0, phase := .none }
  match cfg with
  | none => if A.known && decide (A.position > 0) then { A with state := .parking, target := 0 } else { A with state := .parked }
  | some c => if c.enabled then A.place held c else A.disable

/-- R69, R70: a staged record applied where the state allows it. -/
def Gauge.applyStaged (held : Bool) (G : Gauge) : Gauge :=
  match G.staged with
  | none => G
  | some c =>
    let A := { G with active := some c, staged := none, divider := 0 }
    match G.state with
    | .tracking => if !c.enabled then A.disable else if A.fits c.sweep then A else A.home 4520
    | .held => if !c.enabled then A.disable else if A.fits c.sweep then A else A.home 4520
    | .disabled => if !c.enabled then A.disable else A.place held c
    | _ => G

/-! ### The frame (R49) -/

/-- R49 step 2: target work, with the input that R51 chooses. -/
def Gauge.targetWork (input : Option Nat) (G : Gauge) : Gauge :=
  match G.state, G.active with
  | .tracking, some c =>
    let C := G.compute c input
    { C with target := stage3 c.damping C.angle C.target }
  | .homing, _ => { G with homing := G.homing - min 100 G.homing }
  | .sweep, some c =>
    { G with target := match G.phase with
      | .up => c.sweep
      | _ => 0 }
  | .parking, _ => { G with target := 0 }
  | .disabled, _ => { G with target := 0 }
  | _, _ => G

/-- R55: the slew of a state. -/
def Gauge.slewNow (G : Gauge) : Nat :=
  match G.state with
  | .parking => 200
  | .disabled => 200
  | _ => (G.active.map (fun c => c.slew)).getD 200

/-- R49 step 3: whether the position moves in a state. -/
def PointerState.moves : PointerState → Bool
  | .tracking => true
  | .held => true
  | .sweep => true
  | .parking => true
  | .disabled => true
  | .unhomed => false
  | .homing => false
  | .parked => false

/-- R49 step 3, R55: motion. -/
def Gauge.motion (G : Gauge) : Gauge :=
  if G.state.moves && G.known then { G with position := stage4 G.slewNow G.position G.target } else G

/-- R59: the end of a homing. -/
def Gauge.homed (held : Bool) (G : Gauge) : Gauge :=
  let A := { G with known := true, position := 0, target := 0, homing := 0 }
  if G.parkPending then { A with parkPending := false, state := .parked } else A.track held

/-- R49 step 4: arrival. -/
def Gauge.arrive (held : Bool) (G : Gauge) : Gauge :=
  match G.state with
  | .homing => if G.homing = 0 then G.homed held else G
  | .sweep =>
    match G.phase with
    | .up => if G.active.any (fun c => c.sweep == G.position) then { G with phase := .down, target := 0 } else G
    | _ => if G.position = 0 then { G with state := .tracking, phase := .none, target := 0, divider := 0 } else G
  | .parking => if G.known && G.position == 0 then { G with state := .parked } else G
  | _ => G

/-- R49: one gauge's frame after its staged record is applied. -/
def Gauge.frame (held : Bool) (input : Option Nat) (G : Gauge) : Gauge :=
  (((G.targetWork input).settleFace).motion).arrive held

/-- R57: the feed age after a frame. -/
def Gauge.age (G : Gauge) : Gauge := { G with feedAge := min 1000 (G.feedAge + 20) }

/-! ### Sweep ends (R180) -/

/-- R180: a gauge's sweep end at the Service Unit. -/
def sweepEnd (g : Fin 6) (how : SweepRecord) (s : State) : State :=
  if s.svc.sweep[g] = .inSweep then
    let records := s.svc.sweep.set g how
    let ended := !(records.toList.any (fun r => r == .inSweep))
    raiseTopic .service { s with svc :=
      { s.svc with
        sweep := records, sweepRunning := s.svc.sweepRunning && !ended
        sweepResult := if ended then (if records.toList.any (fun r => r == .aborted) then .aborted else .completed)
          else s.svc.sweepResult } }
  else s

/-- R66, R67: the end of a gauge's sweep between two records of it: completed when it left SWEEP for TRACKING by
arrival, aborted otherwise. -/
def deliverAbort (g : Fin 6) (before after : Gauge) (s : State) : State :=
  if before.phase ≠ .none ∧ after.phase = .none then sweepEnd g .aborted s else s

/-- R49: one gauge at a gauge frame. -/
def gaugeStep (s : State) (g : Fin 6) : State :=
  let held := decide (s.gauges.hold ≠ .none)
  let G := s.gauges.gauge[g]
  let A := G.applyStaged held
  let B := A.frame held (s.gaugeInput A)
  let t := deliverAbort g G A (s.modGauge g (fun _ => B))
  let u := if A.phase ≠ .none ∧ B.phase = .none then sweepEnd g .completed t else t
  if G.staged.isSome && A.staged.isNone then raiseTopic .gauges u else u

/-- R49: the Gauge Unit's part of a gauge frame; during the preload it does nothing. -/
def gaugeFrames (s : State) : State :=
  if s.store.cfgState = .preloading then s else (indices 6).foldl gaugeStep (s.modGauges Gauge.age)

/-! ### Events from other blocks (R60 to R63, R65, R67) -/

/-- R60: a gauge at the crank start. -/
def Gauge.crankStart (G : Gauge) : Gauge :=
  match G.state with
  | .tracking => { G with state := .held }
  | .sweep => { G with state := .held }
  | _ => G

def gaugesCrankStart (s : State) : State :=
  let t := s.modGauges Gauge.crankStart
  { t with gauges := { t.gauges with hold := .crank } }

def gaugesCrankEnd (s : State) : State := { s with gauges := { s.gauges with hold := .settle 200 } }

/-- R60, R65: a HELD gauge at the expiry of the crank hold. -/
def Gauge.release (G : Gauge) : Gauge :=
  match G.state, G.phase with
  | .held, .none => G.track false
  | .held, .up => { G with state := .sweep, target := (G.active.map (fun c => c.sweep)).getD G.target }
  | .held, .down => { G with state := .sweep, target := 0 }
  | _, _ => G

def gaugesHoldEnd (s : State) : State :=
  let t := s.modGauges Gauge.release
  { t with gauges := { t.gauges with hold := .none } }

/-- R61: a gauge at a parking request. -/
def Gauge.park (G : Gauge) : Gauge :=
  match G.state with
  | .tracking => { G with state := .parking, target := 0, phase := .none }
  | .held => { G with state := .parking, target := 0, phase := .none }
  | .sweep => { G with state := .parking, target := 0, phase := .none }
  | .homing => { G with parkPending := true }
  | _ => G

/-- R61, R67: the parking request at the Gauge Unit, with the aborts of swept gauges. -/
def gaugesPark (s : State) : State :=
  (indices 6).foldl (fun t g => deliverAbort g s.gauges.gauge[g] t.gauges.gauge[g] t) (s.modGauges Gauge.park)

/-- R62: a gauge at a key return in READY. -/
def Gauge.keyReturn (held : Bool) (G : Gauge) : Gauge :=
  match G.state with
  | .parking => if G.known then ({ G with target := G.position }).track held else G
  | .parked => if G.known then ({ G with target := G.position }).track held else G
  | .homing => { G with parkPending := false }
  | _ => G

def gaugesKeyReturn (s : State) : State :=
  if s.store.cfgState = .ready then s.modGauges (Gauge.keyReturn (decide (s.gauges.hold ≠ .none))) else s

/-- R63: a gauge at the entry to WATCH.  A position that was never known stays not known (DESIGN CHOICE, log entry 20). -/
def Gauge.watch (G : Gauge) : Gauge :=
  let known := G.known && G.position == 0
  { G with state := if G.state = .disabled then .disabled else .parked, known := known, position := 0,
           phase := .none, parkPending := false }

def gaugesWatch (s : State) : State :=
  let t := s.modGauges Gauge.watch
  { t with gauges := { t.gauges with hold := .none } }

/-- R65: a sweep start at a gauge. -/
def Gauge.startSweep (G : Gauge) : Gauge :=
  match G.state with
  | .tracking => { G with state := .sweep, phase := .up, target := (G.active.map (fun c => c.sweep)).getD G.target }
  | .held => { G with phase := .up }
  | _ => G

/-- R67: a service close at a gauge. -/
def Gauge.endSweep (G : Gauge) : Gauge :=
  match G.state with
  | .sweep => { G with state := .tracking, target := G.position, phase := .none, divider := 0 }
  | _ => { G with phase := .none }

/-- R67, R173: a service close delivered to a gauge. -/
def closeSweep (s : State) (g : Fin 6) : State :=
  if s.svc.sweep[g] = .inSweep then
    let t := s.modGauge g Gauge.endSweep
    deliverAbort g s.gauges.gauge[g] t.gauges.gauge[g] t
  else s

/-- R72: a gauge after WAKE, UNHOMED where its position is not known, for whatever reason (log entry 20). -/
def Gauge.afterWake (G : Gauge) : Gauge := { Gauge.init with state := if G.known then .parked else .unhomed, known := G.known }

/-- R72: a gauge after RESTART. -/
def Gauge.afterRestart (G : Gauge) : Gauge :=
  { Gauge.init with
    state := if G.known then .tracking else .unhomed, known := G.known, position := G.position, target := G.target }

/-- R71: the items of a gauge whose change makes GAUGES pending. -/
def Gauge.items (G : Gauge) : PointerState × Bool × SweepPhase × Bool := (G.state, G.known, G.phase, G.stale)

end Sys2Proof.Machine
end

