-- ==== Sys2Proof/Machine/Warnings.lean ====
section
/-!
DEFINITION. The Warning Manager (chapter 5): triggers, the active list and the waiting queue, the closing steps, and the
map change.
-/

namespace Sys2Proof.Machine

/-- The Warning Manager changed. -/
def State.modWarn (s : State) (f : WarningManager → WarningManager) : State := { s with warn := f s.warn }

/-! ### Conditions (R105 to R111) -/

/-- R105, R110: the on-condition and the off-condition of a level with hysteresis, above or below. -/
def aboveConds (v threshold hysteresis : Nat) : Bool × Bool := (decide (v > threshold), decide (v + hysteresis ≤ threshold))
def belowConds (v threshold hysteresis : Nat) : Bool × Bool := (decide (v < threshold), decide (v ≥ threshold + hysteresis))

/-- A condition without hysteresis: the off-condition is the on-condition failing (R104). -/
def plainConds (on : Bool) : Bool × Bool := (on, !on)

/-- R109, R110: the conditions of a built-in definition. -/
def State.builtInConds (s : State) (w : Nat) : Bool × Bool :=
  match w with
  | 48 => plainConds s.doors.openMoving
  | 49 => plainConds s.anyRelease
  | 50 => plainConds s.anyLampDown
  | 51 => plainConds s.store.faultStands
  | 52 => plainConds (s.store.cfgState == .configHold)
  | 53 => (decide (s.supplyMv < 20000), decide (s.supplyMv ≥ 20500))
  | 54 => (decide (s.supplyMv > 30000), decide (s.supplyMv ≤ 29500))
  | 55 => plainConds (s.gauges.gauge.toList.any (fun G => G.stale && (G.state == .tracking || G.state == .held)))
  | _ => plainConds false

/-- The channel a definition's source names. -/
def sourceChannel (n : Nat) : Option (Fin 40) := if h : n < 40 then some ⟨n, h⟩ else none

/-- What a signal trigger reads (R105): the value handed out by its source. -/
def State.sourceValue (s : State) (n : Nat) : Nat :=
  match sourceChannel n with
  | some i => (s.handed i).value
  | none => 0

/-- R105 to R110: the on-condition and the off-condition of a definition. -/
def State.warnConds (s : State) (w : Fin 56) (d : WarnDef) : Bool × Bool :=
  match d.kind with
  | .signalAbove => aboveConds (s.sourceValue d.source) d.threshold d.hysteresis
  | .signalBelow => belowConds (s.sourceValue d.source) d.threshold d.hysteresis
  | .signalOn => plainConds (s.sourceValue d.source != 0)
  | .lineFault => plainConds (match sourceChannel d.source with
      | some i => s.warn.marker[i]
      | none => false)
  | .doorState => plainConds (if h : d.source < 4 then maskBit d.threshold s.doors.door[d.source].state.code else false)
  | .fed => plainConds (if h : w.val < 48 then s.warn.fedFlag[w.val] else false)
  | .builtIn => s.builtInConds w.val

/-- R111: whether a definition's source channel is SUSPENDED. -/
def State.sourceSuspended (s : State) (n : Nat) : Bool :=
  match sourceChannel n with
  | some i => (s.handed i).cond == .suspended
  | none => false

def TriggerKind.readsChannel : TriggerKind → Bool
  | .signalAbove => true
  | .signalBelow => true
  | .signalOn => true
  | .lineFault => true
  | .doorState => false
  | .fed => false
  | .builtIn => false

/-- R110, R111: whether a definition's trigger is not evaluated at this tick. -/
def State.triggerHeld (s : State) (w : Fin 56) (d : WarnDef) : Bool :=
  (w == 53 && s.power.mode == .crank) || (d.kind.readsChannel && s.sourceSuspended d.source)

/-- R104: a trigger after an evaluation. -/
def Trigger.next (onDelay : Nat) (conds : Bool × Bool) (t : Trigger) : Trigger :=
  match t.state with
  | .on => if conds.2 then { state := .off, count := 0 } else t
  | _ =>
    if conds.1 then
      if t.count = onDelay then { state := .on, count := 0 } else { state := .arming, count := t.count + 1 }
    else { state := .off, count := 0 }

/-! ### List and queue (R114 to R120) -/

def WarnClass.rank (c : WarnClass) : Nat := c.code

/-- R114: quotas; STOP has none. -/
def WarnClass.quota : WarnClass → Option Nat
  | .stop => none
  | .check => some 10
  | .info => some 8
  | .silent => some 6

/-- The capacity of the active list (R114). -/
def listCapacity : Nat := 24

/-- The entries of a class. -/
def countClass (c : WarnClass) (es : List WarnEntry) : Nat := (es.filter (fun e => e.cls == c)).length

/-- R114: whether a class has room in a list. -/
def hasRoom (c : WarnClass) (es : List WarnEntry) : Bool :=
  decide (es.length < listCapacity) && (match c.quota with
    | some q => decide (countClass c es < q)
    | none => true)

/-- R114: an entry put after the entries of its class and of the classes above it. -/
def insertEntry (e : WarnEntry) : List WarnEntry → List WarnEntry
  | [] => [e]
  | x :: xs => if x.cls.rank ≤ e.cls.rank then x :: insertEntry e xs else e :: x :: xs

/-- R115: an entry as a queue item, which carries no listing number. -/
def WarnEntry.unlisted (e : WarnEntry) : WarnEntry := { e with number := 0 }

/-- R114: a listing: the entry takes the listing number, which advances. -/
def WarningManager.list (e : WarnEntry) (m : WarningManager) : WarningManager :=
  { m with active := insertEntry { e with number := m.nextNumber } m.active, nextNumber := m.nextNumber + 1 }

/-- R116: the entry that a STOP pushes out: the most recently listed one of the lowest class present. -/
def pushOutVictim (es : List WarnEntry) : Option WarnEntry :=
  match (es.filter (fun e => e.cls != .stop)).getLast? with
  | some e => some e
  | none => none

/-- R116: one entry pushed out of a full list to the head of the queue. -/
def WarningManager.pushOut (m : WarningManager) : WarningManager :=
  if m.active.length < listCapacity then m
  else
    match pushOutVictim m.active with
    | some e =>
      { m with active := m.active.filter (fun x => decide (x.defn ≠ e.defn)), queue := e.unlisted :: m.queue }
    | none => m

/-- R116: a STOP entry listed, with a push-out where the list is full. -/
def WarningManager.listStop (e : WarnEntry) (m : WarningManager) : WarningManager := m.pushOut.list e

/-- R120: an admission scan; `fuel` is the number of items waiting. -/
def WarningManager.admitScan : Nat → WarningManager → WarningManager
  | 0, m => m
  | fuel + 1, m =>
    match m.queue.find? (fun e => hasRoom e.cls m.active) with
    | none => m
    | some e =>
      WarningManager.admitScan fuel
        (WarningManager.list e { m with queue := m.queue.filter (fun x => decide (x.defn ≠ e.defn)) })

def WarningManager.admitWaiting (m : WarningManager) : WarningManager := WarningManager.admitScan m.queue.length m

/-- Whether a definition holds an entry, listed or waiting. -/
def WarningManager.holds (w : Fin 56) (m : WarningManager) : Bool :=
  m.active.any (fun e => e.defn == w) || m.queue.any (fun e => e.defn == w)

/-- A change of a definition's entry wherever it stands. -/
def WarningManager.modEntry (w : Fin 56) (f : WarnEntry → WarnEntry) (m : WarningManager) : WarningManager :=
  let g := fun (e : WarnEntry) => if e.defn = w then f e else e
  { m with active := m.active.map g, queue := m.queue.map g }

/-- R113: the class of a definition. -/
def WarningManager.classOf (w : Fin 56) (m : WarningManager) : WarnClass := m.map[m.defs[w].severity]

/-- R116 to R118: what an activation does to the list and the queue. -/
def WarningManager.activate (w : Fin 56) (m : WarningManager) : WarningManager :=
  if m.holds w then m.modEntry w (fun e => { e with present := true })
  else
    let e : WarnEntry :=
      { defn := w, cls := m.classOf w, acked := false, present := true, chimed := false, number := 0 }
    if e.cls = .stop then m.listStop e
    else if hasRoom e.cls m.active then m.list e
    else { m with queue := m.queue ++ [e] }

/-- A definition's entry removed; a removal from the active list starts an admission scan (R119, R120). -/
def WarningManager.remove (w : Fin 56) (m : WarningManager) : WarningManager :=
  let listed := m.active.any (fun e => e.defn == w)
  let t := { m with
    active := m.active.filter (fun e => decide (e.defn ≠ w)), queue := m.queue.filter (fun e => decide (e.defn ≠ w)) }
  if listed then t.admitWaiting else t

/-- R119: what a clearing does to the entry. -/
def WarningManager.clear (w : Fin 56) (m : WarningManager) : WarningManager :=
  let t := m.modEntry w (fun e => { e with present := false })
  if m.defs[w].latched && (t.active ++ t.queue).any (fun e => e.defn == w && !e.acked) then t else t.remove w

def warningCode (w : Fin 56) : FaultCode := { source := .warning, index := w.val, kind := .raised }

/-- R104, R112: a trigger's new state, with the consequences of an activation or a clearing. -/
def turnTrigger (w : Fin 56) (t : Trigger) (s : State) : State :=
  let before := s.warn.trigger[w].state
  let u := s.modWarn (fun m => { m with trigger := m.trigger.set w t })
  let records := s.warn.defs[w].record
  if before ≠ .on ∧ t.state = .on then
    let v := u.modWarn (WarningManager.activate w)
    if records then faultPresent (warningCode w) none v else v
  else if before = .on ∧ t.state ≠ .on then
    let v := u.modWarn (WarningManager.clear w)
    if records then faultCleared (warningCode w) v else v
  else u

/-- R103: one definition's trigger at a tick. -/
def evalTrigger (s : State) (w : Fin 56) : State :=
  let d := s.warn.defs[w]
  if d.inUse && !s.triggerHeld w d then turnTrigger w (s.warn.trigger[w].next d.onDelay (s.warnConds w d)) s else s

/-! ### Closing steps (R103, R123, R125, R126, R128) -/

/-- R123: the presented entry. -/
def WarningManager.toPresent (m : WarningManager) : Option WarnEntry :=
  m.active.find? (fun e => !e.acked && e.cls != .silent)

/-- R125: the standing demand that a presented entry asks for. -/
def WarningManager.standingFor (m : WarningManager) (e : Option WarnEntry) : Option ChimePattern :=
  match e with
  | some x => if x.cls = .stop then m.defs[x.defn].chime else none
  | none => none

/-- R125: the one-shot that a presented entry asks for. -/
def WarningManager.shotFor (m : WarningManager) (e : Option WarnEntry) : Option ChimePattern :=
  match e with
  | some x =>
    if x.chimed then none
    else match x.cls with
      | .check => m.defs[x.defn].chime
      | .info => m.defs[x.defn].chime.map (fun _ => .single)
      | .stop => none
      | .silent => none
  | none => none

/-- R125: the chime demands delivered. -/
def closeChime (s : State) : State :=
  let e := s.warn.toPresent
  let t := setWarnStanding (s.warn.standingFor e) s
  match e, s.warn.shotFor e with
  | some x, some p => deliverShot p (t.modWarn (WarningManager.modEntry x.defn (fun y => { y with chimed := true })))
  | _, _ => t

/-- R126: the telltale demands. -/
def WarningManager.telltales (m : WarningManager) : Vector Bool 12 :=
  Vector.ofFn (fun l => (m.active ++ m.queue).any (fun e => decide (m.defs[e.defn].telltale = some l)))

/-- R126, R132: the telltale demands delivered. -/
def closeTelltales (s : State) : State :=
  let demands := s.warn.telltales
  if demands = s.warn.telltale then s
  else
    outputEval { s with
      warn := { s.warn with telltale := demands }
      out := { s.out with lamp := updAll s.out.lamp (fun l L =>
        if h : l.val < 12 then { L with warnDemand := demands[l.val] } else L) } }

/-- R128: what the WARNINGS topic compares of an entry. -/
def WarnEntry.items (e : WarnEntry) : Fin 56 × WarnClass × Bool × Bool := (e.defn, e.cls, e.acked, e.present)

/-- R128: what the WARNINGS topic compares. -/
def State.warnItems (s : State) :
    List (Fin 56 × WarnClass × Bool × Bool) × List (Fin 56 × WarnClass × Bool × Bool) × Option (Fin 56) ×
      Option ChimePattern :=
  (s.warn.active.map WarnEntry.items, s.warn.queue.map WarnEntry.items, s.warn.presented, s.out.chime.warnStanding)

/-- R103: the closing steps, where `s0` is the state at the last closing steps. -/
def closingSteps (s0 s : State) : State :=
  let p := s.modWarn (fun m => { m with presented := m.toPresent.map (fun e => e.defn) })
  let t := closeTelltales (closeChime p)
  if t.warnItems = s0.warnItems then t else raiseTopic .warnings t

/-- R103: a warning tick after the preload. -/
def warningTick (s : State) : State := closingSteps s ((indices 56).foldl evalTrigger s)

/-! ### Map change (R121) -/

/-- R114: whether an entry stands before another in list order. -/
def WarnEntry.before (a b : WarnEntry) : Bool :=
  decide (a.cls.rank < b.cls.rank) || (a.cls.rank == b.cls.rank && decide (a.number ≤ b.number))

/-- An entry put at its place by class rank and listing number. -/
def sortIn (e : WarnEntry) : List WarnEntry → List WarnEntry
  | [] => [e]
  | x :: xs => if x.before e then x :: sortIn e xs else e :: x :: xs

/-- R121 step 3: the list sorted by class rank and listing number. -/
def sortEntries (es : List WarnEntry) : List WarnEntry := es.foldl (fun acc e => sortIn e acc) []

/-- R121 step 4: whether the entry stands beyond its class's quota in a sorted list. -/
def excess (es : List WarnEntry) (e : WarnEntry) : Bool :=
  match e.cls.quota with
  | some q => decide ((es.filter (fun x => x.cls == e.cls && decide (x.number < e.number))).length ≥ q)
  | none => false

/-- R121 step 5: one STOP item of the queue listed. -/
def WarningManager.promote (m : WarningManager) (e : WarnEntry) : WarningManager :=
  WarningManager.listStop e { m with queue := m.queue.filter (fun x => decide (x.defn ≠ e.defn)) }

/-- R121 steps 1 to 6. -/
def WarningManager.remap (map : Vector WarnClass 8) (m : WarningManager) : WarningManager :=
  let reclass : WarnEntry → WarnEntry := fun e => { e with cls := map[m.defs[e.defn].severity] }
  let sorted : List WarnEntry := sortEntries (m.active.map reclass)
  let leaving : List WarnEntry := sorted.filter (excess sorted)
  let t := { m with
    map := map, active := sorted.filter (fun e => !excess sorted e)
    queue := leaving.map WarnEntry.unlisted ++ m.queue.map reclass }
  ((t.queue.filter (fun e => e.cls == .stop)).foldl WarningManager.promote t).admitWaiting

end Sys2Proof.Machine
end

