-- ==== Sys2Proof/Machine/Service.lean ====
section
/-!
DEFINITION. The Service Unit's close (R173, R174), the change of the PARK_BRAKE role, and what a change of the force list
or of the override list makes other blocks do.
-/

namespace Sys2Proof.Machine

/-! ### Forces and overrides at the other blocks (R19, R20, R87, R136, R144) -/

/-- R87: the handle lines whose override ends between two override lists. -/
def endedMasks (s0 s : State) : List (Fin 4) := (indices 4).filter (fun d => s0.masked d && !s.masked d)

/-- R19, R20, R87, R136, R144: every block that a change of forces or overrides reaches takes it, where `s0` is the state
before the change.  That one doorway evaluation takes all override ends and channel changes of a close is the model's choice,
and so is that the one demand evaluation (R132) comes behind it, so that a handle line whose FLASH override is removed while
its handle is out in NONE goes from FLASH to FLASH and keeps its running half (DESIGN CHOICE, log entry 36). -/
def applyLists (s0 s : State) : State :=
  chimeOverrideChange (s0.overrideOf .chime) (doorEvalFrom s0 ((endedMasks s0 s).foldl endMask s))

/-! ### The close (R173, R174) -/

/-- R174: whether an access of a Service Link request needed service mode. -/
def Purpose.neededService : Purpose → Bool
  | .odoSet => true
  | .faultClear => true
  | .linkWrite _ _ _ _ needed => needed
  | .release _ needed => needed
  | _ => false

/-- R44, R163, R196: what a dropped access leaves behind. -/
def droppedAccess (p : Purpose) (s : State) : State :=
  match p with
  | .faultClear => { s with fault := s.fault.markAll true }
  | .release _ _ => raiseTopic .store { s with store := { s.store with releasing := false } }
  | _ => s

/-- R174: the Service Link's waiting access at a close. -/
def dropServiceAccess (s : State) : State :=
  match s.store.waiting.service with
  | some p =>
    if p.neededService then
      answerHeld .service .serviceClosed [] false
        (droppedAccess p { s with store := { s.store with waiting := { s.store.waiting with service := none } } })
    else s
  | none => s

/-- R173: a close; with the mode CLOSED a cause has no effect (R171). -/
def closeService (cause : CloseCause) (s : State) : State :=
  if s.svc.isOpen then
    let closed := { s with svc :=
      { s.svc with isOpen := false, silence := none, lastClose := cause, forces := [], overrides := [] } }
    let swept := (indices 6).foldl closeSweep (applyLists s closed)
    raiseTopic .service (dropServiceAccess swept)
  else s

/-- R171, R201: the value of the PARK_BRAKE role as its readers take it; a turn to 0 closes service mode. -/
def parkBrakeNotice (s : State) : State :=
  let v := (s.role .parkBrake).value
  let t := { s with power := { s.power with parkBrake := v } }
  if s.power.parkBrake ≠ 0 ∧ v = 0 ∧ s.store.cfgState = .ready then closeService .parkBrake t else t

/-- R171: the speed test at a gauge frame. -/
def speedClose (s : State) : State := if s.speed.estimate ≥ 100 then closeService .speed s else s

/-- R168: the opening conditions: mode, standstill, park brake. -/
def State.openingConditions (s : State) : Bool × Bool × Bool :=
  (s.power.mode == .acc || s.power.mode == .run, s.standstill,
   s.store.cfgState == .configHold || (s.role .parkBrake).value == 1)

end Sys2Proof.Machine
end

