-- ==== Sys2Proof/Machine/Power.lean ====
section
/-!
DEFINITION. The Power Controller's modes (chapter 10): the mode evaluation of R203, the entries to PARKING and to WATCH,
and what each delivers to the blocks.
-/

namespace Sys2Proof.Machine

/-- The Power Controller changed. -/
def State.modPower (s : State) (f : PowerController → PowerController) : State := { s with power := f s.power }

/-! ### Lines (R201) -/

/-- R201: a filtered line after a sample. -/
def LineFilter.sample (on : Bool) (f : LineFilter) : LineFilter :=
  if on = f.level then { f with count := 0 }
  else if f.count + 1 ≥ 25 then { level := on, count := 0 }
  else { f with count := f.count + 1 }

/-! ### Entry to WATCH (R208) -/

/-- R22: the H records at the entry to WATCH. -/
def HandleSense.watch (h : HandleSense) : HandleSense := { h with count := 0, out := false }

/-- R96, R22: the Doorway Monitor at the entry to WATCH. -/
def DoorwayMonitor.watch (m : DoorwayMonitor) : DoorwayMonitor :=
  { m with door := updAll m.door (fun _ D => { D with sense := D.sense.watch }), dbDemand := false, diDemand := false }

/-- R187: the pending accesses dropped at the entry to WATCH; a dropped record writer item stays to be written (R160). -/
def dropPending (s : State) : State :=
  let marked := match s.store.waiting.record with
    | some (.record item) => s.fault.mark item true
    | _ => s.fault
  { s with
    fault := marked
    speed := { s.speed with scheduled := .none }
    store := { s.store with waiting := PendingAccesses.init, releasing := false } }

/-- R208: the entry to WATCH, delivered to every block (R18, R22, R63, R96, R129, R147, R187, R218).  That the parking timer is
stopped there is the model's choice (DESIGN CHOICE, log entry 3). -/
def enterWatch (s : State) : State :=
  let t := dropPending (gaugesWatch s)
  { t with
    sig := { t.sig with hold := .none }
    doors := t.doors.watch
    warn := WarningManager.init
    out := OutputUnit.init
    links := Links.init
    power := { t.power with
      mode := .watch, holdDemand := false, offTimer := none, parkTimer := none, watchAcc := 0, watchIgn := 0 } }

/-! ### Mode changes (R203 to R206) -/

/-- R206: PARKING ends in WATCH where its conditions hold. -/
def watchWhenReady (s : State) : State := if s.mayWatch then enterWatch s else s

/-- R205: an entry to PARKING. -/
def enterParking (s : State) : State :=
  let t := s.modPower (fun p => { p with mode := .parking, offTimer := none, parkTimer := some 0 })
  let u := storePump pumpRounds (requestFaultFlush (requestParkingWrite (gaugesPark t)))
  watchWhenReady (closeService .powerMode u)

/-- R204: an entry to CRANK from RUN, with the crank start. -/
def enterCrank (s : State) : State :=
  let t := s.modPower (fun p => { p with mode := .crank, offTimer := none })
  gaugesCrankStart (doorEvalFrom s { t with sig := t.sig.crankStart })

/-- R203: CRANK at once where the crank condition holds in RUN. -/
def crankAtOnce (s : State) : State := if s.crankCondition then enterCrank s else s

/-- R204: an entry to RUN that is a run start. -/
def enterRunStart (s : State) : State :=
  ageFaults (restoreLamps (s.modPower (fun p => { p with mode := .run, offTimer := none })))

/-- R203: ACC or RUN with the off timer stopped. -/
def enterMode (m : PowerMode) (s : State) : State := s.modPower (fun p => { p with mode := m, offTimer := none })

/-- R203: the off timer started, unless it runs. -/
def startOffTimer (s : State) : State := s.modPower (fun p => { p with offTimer := some (p.offTimer.getD 0) })

/-- R203: the off timer stopped. -/
def stopOffTimer (s : State) : State := s.modPower (fun p => { p with offTimer := none })

/-- R203: the RUN rows. -/
def runRows (s : State) : State :=
  if s.crankCondition then enterCrank s
  else if s.power.ign.level then stopOffTimer s
  else if s.power.acc.level then enterMode .acc s
  else startOffTimer s

/-- R206: a key return. -/
def keyReturn (m : PowerMode) (s : State) : State :=
  gaugesKeyReturn (s.modPower (fun p => { p with mode := m, parkTimer := none }))

/-- R203: a mode evaluation. -/
def modeEval (s : State) : State :=
  match s.power.mode with
  | .starting =>
    if s.store.cfgState = .preloading ∨ s.power.lineSettle.isSome then s
    else if s.power.ign.level then crankAtOnce (enterRunStart s)
    else if s.power.acc.level then enterMode .acc s
    else enterParking s
  | .acc =>
    if s.power.ign.level then enterRunStart s
    else if s.power.acc.level then stopOffTimer s
    else startOffTimer s
  | .run => runRows s
  | .crank =>
    if !s.power.ign.level || (!s.power.crank.level && (s.power.supplyClass == .normal || s.power.supplyClass == .high)) then
      runRows (gaugesCrankEnd (enterMode .run { s with sig := s.sig.crankEnd }))
    else s
  | .parking =>
    if s.power.ign.level then crankAtOnce (keyReturn .run s)
    else if s.power.acc.level then keyReturn .acc s
    else watchWhenReady s
  | .watch => s

end Sys2Proof.Machine
end

