-- ==== Sys2Proof/Machine/Preload.lean ====
section
/-!
DEFINITION. The end of the preload (R191 to R193) at every block, and the three resets (R209) with the cut access of R185.
-/

namespace Sys2Proof.Machine

/-! ### The end of the preload -/

/-- R192 step 1: the preload result of an image, read through its bytes. -/
def checkImage (img : Nat → Byte) : PreloadResult :=
  match imageFailure img with
  | none => .valid
  | some f => .failed f.sect f.item f.index

/-- R27, R36, R45: the Speed Unit takes P and the edge thresholds. -/
def configureSpeed (c : BlockConfig) (s : State) : State :=
  let t := { s with speed :=
    { s.speed with
      pulseConst := some c.pulse
      pu0 := s.speed.pu0.rethreshold (c.chan[38]).count
      pu1 := s.speed.pu1.rethreshold (c.chan[39]).count
      accumulator := s.speed.accumulator % (c.pulse / 10) } }
  increments (s.speed.accumulator / (c.pulse / 10)) t

/-- R58: the gauges take their configuration. -/
def configureGauges (c : BlockConfig) (s : State) : State :=
  let held := decide (s.gauges.hold ≠ .none)
  { s with gauges := { s.gauges with
      gauge := updAll s.gauges.gauge (fun g G => G.afterPreload held c.gauge[g]) } }

/-- R191: every block takes its configuration.  That the Speed Unit takes it (with the increments that its constant brings
due) ahead of the gauges, the lamp outputs in turn and the doorway evaluation is the model's choice (DESIGN CHOICE, log entry
36). -/
def configureBlocks (c : BlockConfig) (s : State) : State :=
  let t := { s with
    sig := { s.sig with chan := updAll s.sig.chan (fun i x => x.configure c.chan[i]) }
    doors := { s.doors with
      door := updAll s.doors.door (fun d D => { D with configured := some c.door[d] }), rampDoor := c.rampDoor }
    warn := { s.warn with defs := c.defs, map := c.map }
    power := { s.power with enables := some c.enables }
    out := { s.out with nightDuty := c.nightDuty } }
  (indices 16).foldl (configureLamp c) (configureGauges c (configureSpeed c t))

/-- R192: the end of the preload with its result, its configuration and the staging image it leaves. -/
def finishPreload (s0 : State) (result : PreloadResult) (c : BlockConfig) (staging : Mem) : State :=
  let ready := result = .valid
  let t := { s0 with store :=
    { s0.store with
      cfgState := if ready then .ready else .configHold
      source := if ready then (match s0.store.source with
        | some .unsaved => some .unsaved
        | _ => some .store) else s0.store.source
      staging := staging, result := some result } }
  modeEval (parkBrakeNotice (doorEvalFrom s0 (configureBlocks c (raiseTopic .store t))))

/-- R192: the end of the preload over an image. -/
def endPreloadImage (staging : Mem) (s : State) : State :=
  let img := stagingByte staging
  let result := checkImage img
  finishPreload s result (if result = .valid then imageConfig img else defaultConfig) staging

/-- R192: the end of the preload after its CONFIG read, which gives no bytes where it ended in STORE_FAULT. -/
def endPreloadRead (read : Option (List Byte)) (s : State) : State :=
  match read with
  | some bytes => endPreloadImage (Mem.ofBytes 0#8 0 bytes) s
  | none => finishPreload s .storeFault defaultConfig []

/-! ### Cut accesses (R184, R185) -/

/-- Bytes of a span each old or new, as the free value says (log entry 5). -/
def tornBytes (draw : Nat) (m : Mem) : Nat → List Byte → Mem
  | _, [] => m
  | a, v :: vs =>
    tornBytes draw (if Config.tornByteIsNew draw a then Mem.write erased m a v else m) (a + 1) vs

/-- R184: the bytes of a write access's page write under way. -/
def Access.stepBytes (a : Access) : List Byte :=
  (a.bytes.drop a.done).take (stepLength (a.area.base + a.offset + a.done) (a.total - a.done))

/-- R184, R185: a page write left undecided: each byte of its span is old or new. -/
def tear (a : Access) (s : State) : State :=
  if a.isWrite then
    { s with eeprom := tornBytes s.freeCount s.eeprom (a.area.base + a.offset + a.done) a.stepBytes
             freeCount := s.freeCount + 1 }
  else s

/-- R185: the access in flight cut by a reset or by the loss of supply. -/
def cutAccess (s : State) : State :=
  match s.store.inFlight with
  | some a => tear a s
  | none => s

/-! ### Resets (R209) -/

/-- R209: POWER-ON. -/
def powerOnReset (s : State) : State :=
  let t := cutAccess s
  { State.poweredOn t.eeprom with freeCount := t.freeCount, pending := t.pending }

/-- R185: the part without supply: its RAM state is lost, its outputs are off, the store keeps its content. -/
def unpowered (s : State) : State :=
  let t := powerOnReset s
  { t with powered := false, out := OutputUnit.init, doors := { t.doors with diDemand := false }
           store := { t.store with inFlight := none } }

/-- R45: the Speed Unit after WAKE or RESTART. -/
def SpeedUnit.afterReset (u : SpeedUnit) : SpeedUnit :=
  { SpeedUnit.init with accumulator := u.accumulator, working := u.working, loaded := u.loaded, stored := u.stored,
                        nextSlot := u.nextSlot }

/-- R72: the Gauge Unit after WAKE or RESTART. -/
def GaugeUnit.afterReset (kind : ResetKind) (u : GaugeUnit) : GaugeUnit :=
  { gauge := updAll u.gauge (fun _ G => if kind = .restart then G.afterRestart else G.afterWake), hold := .none }

/-- R99: the Doorway Monitor after WAKE or RESTART. -/
def DoorwayMonitor.afterReset (m : DoorwayMonitor) : DoorwayMonitor :=
  { DoorwayMonitor.init with door := updAll m.door (fun _ D => Doorway.init D.phase) }

/-- R199: the Store Controller after WAKE or RESTART. -/
def StoreController.afterReset (c : StoreController) : StoreController :=
  if c.source = some .unsaved then { StoreController.init with source := c.source, staging := c.staging }
  else StoreController.init

/-- R192, R197: the preload of a WAKE or RESTART. -/
def startPreload (s : State) : State :=
  if s.store.source = some .unsaved then storePump pumpRounds (endPreloadImage s.store.staging s)
  else fly (newAccess .preConfig false .config 0 4096 []) s

/-- R209: WAKE or RESTART: every block keeps what its chapter keeps, the Doorway Monitor evaluates (R96), and the preload
starts. -/
def warmReset (kind : ResetKind) (wake : WakeCause) (s : State) : State :=
  let t := cutAccess s
  let fresh := State.poweredOn t.eeprom
  startPreload (doorEval { fresh with
    timebase := t.timebase, freeCount := t.freeCount, pending := t.pending
    speed := t.speed.afterReset
    gauges := t.gauges.afterReset kind
    doors := t.doors.afterReset
    fault := { (t.fault.afterReset t.store) with loading := false }
    store := t.store.afterReset
    power := PowerController.init kind wake })

/-- R181, R196: the RESTART that follows a transmitted reply. -/
def restartReset (s : State) : State := warmReset .restart .none s

/-- R208: a wake in WATCH: with its source enabled it performs a WAKE reset, else it is ignored. -/
def wakeReset (cause : WakeCause) (enabled : WakeEnables → Bool) (s : State) : State :=
  if s.power.enables.any enabled then warmReset .wake cause s else s

def linkWake (s : State) : State := wakeReset .link (fun e => e.link) s
def keyWake (s : State) : State := wakeReset .key (fun e => e.key) s
def handleWake (s : State) : State := wakeReset .handle (fun e => e.handle) s

end Sys2Proof.Machine
end

