-- ==== Sys2Proof/Machine/Store.lean ====
section
/-!
DEFINITION. The Store Controller's accesses as they go on and complete (R184, R186, R188), and what each requester does at
its completion.
-/

namespace Sys2Proof.Machine

/-! ### The store-fault indication (R188) -/

def storeFaultCode : FaultCode := { source := .store, index := 0, kind := .raised }

/-- The store page of an access's step under way. -/
def Access.page (a : Access) : Nat := (a.area.base + a.offset + a.done) / pageSize

/-- R188: a raise, with its notice. -/
def raiseIndication (a : Access) (s : State) : State :=
  faultPresent storeFaultCode none (raiseTopic .store { s with store :=
    { s.store with faultStands := true, lastFailure := some (a.purpose.requester, a.area, a.page) } })

/-- R188: a lowering, with its notice; nothing where the indication does not stand. -/
def lowerIndication (s : State) : State :=
  if s.store.faultStands then
    faultCleared storeFaultCode (raiseTopic .store { s with store := { s.store with faultStands := false } })
  else s

/-! ### Completions -/

/-- R192: the next read of the preload handed. -/
def handPreload (p : Purpose) (s : State) : State :=
  { s with store := { s.store with waiting := { s.store.waiting with preload := some p } } }

/-- R40, R41, R44: the odometer's part of a slot write's completion. -/
def slotOutcome (ok : Bool) (a : Access) (u : SpeedUnit) : SpeedUnit := if ok then u.slotWritten a.odometer else u

/-- R156: the FAULTS read of the preload completes. -/
def faultsRead (read : Option (List Byte)) (s : State) : State :=
  let m := match read with
    | some bytes => loadMirror bytes s.fault
    | none => unloadedMirror s.fault
  takeHeldNotices (raiseTopic .faults { s with fault := m })

/-- R159: one access of the fault part completes. -/
def parkItemOutcome (ok : Bool) (item : WriterItem) (s : State) : State :=
  if !ok then { s with fault := (s.fault.mark item true).endPart }
  else if s.fault.partItems.isEmpty then { s with fault := s.fault.endPart }
  else s

/-- R163: the FAULT_CLEAR write completes. -/
def faultClearOutcome (ok : Bool) (s : State) : State :=
  if ok then
    let t := { s with fault := { s.fault with loaded := true } }
    answerHeld .service .ok [] false (if s.fault.loaded then t else raiseTopic .faults t)
  else answerHeld .service .storeFault [] false { s with fault := s.fault.markAll true }

/-- R196: the release write completes; a RESTART follows its reply. -/
def releaseOutcome (ok : Bool) (l : LinkId) (s : State) : State :=
  let source : Option CfgSource :=
    if ok then (if s.store.source = some .unsaved then some .store else s.store.source) else some .unsaved
  answerHeld l (if ok then .ok else .storeFault) [] true
    (raiseTopic .store { s with store := { s.store with source := source, releasing := false } })

/-- R189: the reply of a read.  The count done serves as the count byte of the list of bytes read (DESIGN CHOICE, log entry 10). -/
def readOutcome (ok : Bool) (l : LinkId) (a : Access) (s : State) : State :=
  if ok then answerHeld l .ok (put1 a.area.code ++ put2 a.offset ++ put1 a.done ++ a.got) false s
  else answerHeld l .storeFault (put1 0) false s

/-- R186: the requester takes the outcome of its access. -/
def takeOutcome (ok : Bool) (a : Access) (s : State) : State :=
  let read := if ok then some a.got else none
  match a.purpose with
  | .preOdo => handPreload .preFaults { s with speed := s.speed.load read }
  | .preFaults => handPreload .preConfig (faultsRead read s)
  | .preConfig => endPreloadRead read s
  | .parkOdo => { s with speed := (slotOutcome ok a s.speed).endParking }
  | .parkItem item => parkItemOutcome ok item s
  | .record .odo => { s with speed := { (slotOutcome ok a s.speed) with scheduled := .none } }
  | .record item => if ok then s else { s with fault := s.fault.mark item true }
  | .linkRead l _ _ _ => readOutcome ok l a s
  | .linkWrite l _ _ _ _ => answerHeld l (if ok then .ok else .storeFault) (put1 a.done) false s
  | .odoSet => answerHeld .service (if ok then .ok else .storeFault) [] false { s with speed := slotOutcome ok a s.speed }
  | .faultClear => faultClearOutcome ok s
  | .release l _ => releaseOutcome ok l s

/-- R186: the completed access stops being in flight, which in PARKING makes POWER pending (R211) even where the next access
starts at once; the mode is evaluated (R206), and outside WATCH (R187) the arbiter starts the pending access of the highest
rank.  A change of a parking condition at that start has its evaluation at the end of the command (`settleMode`). -/
def nextAccess (s : State) : State :=
  let t := modeEval (topicIf (s.power.mode == .parking) .power { s with store := { s.store with inFlight := none } })
  if t.power.mode = .watch then t else storePump pumpRounds t

/-- R186, R188: the completion of the access in flight.  The indication and its notice come first, then the requester's
outcome, then the next access: the order of the first two is the model's choice (DESIGN CHOICE, log entry 18). -/
def completeAccess (ok : Bool) (a : Access) (s : State) : State :=
  let t := if ok then lowerIndication s else raiseIndication a s
  nextAccess (takeOutcome ok a t)

/-! ### Attempts (R184) -/

/-- R183: whether an access stays within its area. -/
def Access.inArea (a : Access) : Bool := decide (a.offset + a.total ≤ a.area.size)

/-- The bytes of the step under way. -/
def Access.step (a : Access) : Nat := stepLength (a.area.base + a.offset + a.done) (a.total - a.done)

/-- R184: the access after its step succeeds. -/
def Access.afterStep (m : Mem) (a : Access) : Access :=
  { a with done := a.done + a.step, attempts := 0,
           got := if a.isWrite then a.got else a.got ++ Mem.readBytes erased m (a.area.base + a.offset + a.done) a.step }

/-- R184: the store content after a step that succeeds. -/
def Access.stepStore (m : Mem) (a : Access) : Mem :=
  if a.isWrite then Mem.writeBytes erased m (a.area.base + a.offset + a.done) a.stepBytes else m

/-- R184: an attempt answered: the step succeeds and the access goes on or completes. -/
def answerAttempt (a : Access) (s : State) : State :=
  let b := a.afterStep s.eeprom
  let t := { s with eeprom := a.stepStore s.eeprom, store := { s.store with inFlight := some b } }
  if b.done ≥ b.total then completeAccess true b t else t

/-- R184: an attempt unanswered: it is tried again, or the third ends the access with STORE_FAULT. -/
def loseAttempt (a : Access) (s : State) : State :=
  if a.attempts + 1 ≥ 3 then completeAccess false a (tear a s)
  else { s with store := { s.store with inFlight := some { a with attempts := a.attempts + 1 } } }

end Sys2Proof.Machine
end

