-- ==== Sys2Proof/Machine/Reports.lean ====
section
/-!
DEFINITION. The contents of replies and reports as bytes (R219 and the rules it refers to), formed from the state as it
stands.  Log entry 10 gives the codes that no table of the manual fixes.
-/

namespace Sys2Proof.Machine

/-- A list preceded by its count byte (R219). -/
def putList (items : List (List Byte)) : List Byte := put1 items.length ++ items.flatten

/-- A code, or 0FFH for none.  R219 gives 0FFH for an index that is none; the same byte for an enumerated item that is none (the
configuration source, the requester in flight and the like) is the model's choice (DESIGN CHOICE, log entry 10). -/
def putCode (c : Option Nat) : List Byte := putIndex c

/-- A timer: stopped 0 or running 1, and its elapsed or remaining ms. -/
def putTimer (t : Option Nat) : List Byte := putBool t.isSome ++ put2 (t.getD 0)

/-! ### Signals (R26) -/

def Handed.flags (h : Handed) : Nat := (if h.substituted then 1 else 0) + (if h.forced then 2 else 0)

/-- A signal entry at detail 0. -/
def State.signal0 (s : State) (i : Fin 40) : List Byte :=
  let h := s.handed i
  put2 h.value ++ put1 h.cond.code ++ put1 h.flags

/-- A signal entry at detail 1 (R26).  A channel without the field sends 0: the manual says so of the sense counts alone, and
for the filter counter of an ANALOGUE or PULSE channel and the filter output of a PULSE channel it is the model's choice
(DESIGN CHOICE, log entry 10). -/
def State.signal1 (s : State) (i : Fin 40) : List Byte :=
  let h := s.handed i
  let c := s.sig.chan[i]
  let packed := c.sense * 4096 + c.filterOut
  put2 h.value ++ put1 (h.cond.code * 16 + candCode c.cand) ++ put1 h.flags ++ put4 c.raw ++ put1 (packed / 65536) ++
  put2 packed ++ put1 c.filterCount ++ put1 c.qual

/-- R26: the number of channels that a span gives. -/
def spanDone (first count limit : Nat) : Nat := min (min count limit) (40 - first)

/-- The channels of a span. -/
def spanChannels (first n : Nat) : List (Fin 40) := (indices 40).filter (fun i => decide (first ≤ i.val) && decide (i.val < first + n))

def State.signalEntries (s : State) (detail first n : Nat) : List Byte :=
  ((spanChannels first n).map (fun i => if detail = 0 then s.signal0 i else s.signal1 i)).flatten

/-! ### Doors (R97) -/

def putRole (s : State) (r : Role) : List Byte := put1 (s.role r).value

def State.doorBytes (s : State) (d : Fin 4) : List Byte :=
  let D := s.doors.door[d]
  put1 D.state.code ++ put1 D.phase.code ++ putBool D.phase.flashes ++ putBool (s.masked d) ++ putBool D.sense.out ++
  putBool (decide (D.resense ≥ 10)) ++ putBool D.timer.isSome ++ putBool D.confirmed ++ putBool D.lineFault ++
  putRole s (.closed d) ++ putRole s (.locked d) ++ putRole s (.edge d)

def State.doorsBytes (s : State) : List Byte :=
  ((indices 4).map s.doorBytes).flatten ++ putIndex (s.doors.rampDoor.map (fun d => d.val)) ++ putBool s.doors.ramp ++
  putBool s.doors.kneel ++ putBool s.doors.dbCause ++ put1 (offOnCode s.doors.dbDemand) ++
  put1 (offOnCode s.doors.diDemand) ++ putBool s.doors.brakeMoving ++ putBool s.doors.openMoving

/-! ### Warnings (R127, R128) -/

def State.warnEntryBytes (s : State) (e : WarnEntry) : List Byte :=
  let d := s.warn.defs[e.defn]
  put1 e.defn.val ++
  put1 (e.cls.code * 64 + d.severity.val * 8 + (if e.acked then 4 else 0) + (if e.present then 2 else 0) +
    (if d.latched then 1 else 0))

/-- The class usage counts, the presented entry and the standing chime demand. -/
def State.warnTail (s : State) : List Byte :=
  put1 (countClass .stop s.warn.active) ++ put1 (countClass .check s.warn.active) ++
  put1 (countClass .info s.warn.active) ++ put1 (countClass .silent s.warn.active) ++ put1 s.warn.queue.length ++
  putIndex (s.warn.presented.map (fun w => w.val)) ++ put1 (warnChimeCode s.out.chime.warnStanding)

def State.warnListBytes (s : State) (part start : Nat) : List Byte :=
  let es := if part = 0 then s.warn.active else s.warn.queue
  put1 part ++ put1 start ++ put1 es.length ++ putList (((es.drop start).take 24).map s.warnEntryBytes) ++ s.warnTail

def State.warningsReport (s : State) : List Byte := putList (s.warn.active.map s.warnEntryBytes) ++ s.warnTail

/-! ### Outputs (R135) -/

def State.lampBytes (s : State) (l : Fin 16) : List Byte :=
  let L := s.out.lamp[l]
  let fn := if l.val < 12 then L.fn.code else 7
  put2 (fn * 4096 + (s.combined l).code * 1024 + overrideCode (s.overrideOf (.lamp l)) * 256 + L.drive.code * 64 +
    (if s.energised l then 32 else 0) + L.protection.code * 8 + L.retry * 2 +
    (if l.val < 12 ∧ L.openState = true then 1 else 0))

/-- The pattern the chime sounds, and whether it is a one-shot; while nothing sounds the second is sent as standing, 0 (DESIGN
CHOICE, log entry 10). -/
def Playing.report : Playing → Option ChimePattern × Bool
  | .none => (Option.none, false)
  | .standing p _ => (some p, false)
  | .oneshot p _ => (some p, true)

/-- The output snapshot. -/
def State.snapshot (s : State) : List Byte :=
  ((indices 16).map s.lampBytes).flatten ++ putBool s.out.night ++
  putIndex (s.out.chime.playing.report.1.map ChimePattern.code) ++ putBool s.out.chime.playing.report.2 ++
  putBool s.out.dbOut ++ putBool s.out.diOut ++ putBool s.out.holdOut ++ putBool (s.overrideOf .db).isSome ++
  putBool (s.overrideOf .di).isSome

/-! ### Faults (R161, R164) -/

/-- A record in FAULT_READ's layout. -/
def State.faultRecordBytes (s : State) (p : Fin 32) (r : FaultRec) : List Byte :=
  put1 p.val ++ r.bytes ++ putBool s.fault.dirty[p]

/-- The occupied positions at or after a start that pass a filter. -/
def State.faultsFrom (s : State) (start : Nat) (activeOnly : Bool) : List (Fin 32 × FaultRec) :=
  (indices 32).filterMap (fun p =>
    match s.fault.record[p] with
    | some r => if decide (start ≤ p.val) && (!activeOnly || r.active) then some (p, r) else none
    | none => none)

def FaultCode.bytes (c : FaultCode) : List Byte := put1 c.source.code ++ put1 c.index ++ put1 c.kind.code

/-- The last change: its position and code, 0FFH and zeros for none. -/
def FaultMemory.lastChangeBytes (m : FaultMemory) : List Byte :=
  match m.lastChange with
  | some (p, c) => put1 p.val ++ c.bytes
  | none => putIndex none ++ put1 0 ++ put1 0 ++ put1 0

/-- The mirror status: LOADED, UNLOADED. -/
def FaultMemory.statusCode (m : FaultMemory) : Nat := if m.loaded then 0 else 1

def State.faultReadBytes (s : State) (start : Nat) (activeOnly : Bool) : List Byte :=
  let found := s.faultsFrom start activeOnly
  let next := if found.length > 4 then ((found.drop 3).head?).map (fun x => x.1.val + 1) else none
  put1 s.recordCount ++ put1 s.activeCount ++ put1 (setClearCode s.fault.overflow) ++ put1 s.fault.statusCode ++
  s.fault.lastChangeBytes ++ putBool s.faultWritePending ++
  putList ((found.take 4).map (fun x => s.faultRecordBytes x.1 x.2)) ++ putIndex next

/-- R164: status, count and aging of the last changed record.  The manual sends them "if it still exists" and does not say
what stands in their place otherwise: that they then go as 0FFH, 0 and 0 is the model's choice (DESIGN CHOICE, log entry 10). -/
def State.lastRecordBytes (s : State) : List Byte :=
  match s.fault.lastChange with
  | some (p, c) =>
    match s.fault.record[p] with
    | some r =>
      if r.code = c then put1 (if r.active then 0 else 1) ++ put1 r.count ++ put1 r.aging
      else putIndex none ++ put1 0 ++ put1 0
    | none => putIndex none ++ put1 0 ++ put1 0
  | none => putIndex none ++ put1 0 ++ put1 0

def State.faultsReport (s : State) : List Byte :=
  put1 s.recordCount ++ put1 s.activeCount ++ put1 (setClearCode s.fault.overflow) ++ put1 s.fault.statusCode ++
  putBool s.faultWritePending ++ s.fault.lastChangeBytes ++ s.lastRecordBytes

/-! ### Odometer (R43) -/

def State.odoBytes (s : State) : List Byte :=
  put4 s.speed.working ++ put4 s.speed.stored ++ put4 s.speed.tripA ++ put4 s.speed.tripB ++ putBool s.speed.loaded ++
  putBool s.odoWritePending ++ put2 s.speed.estimate ++ put2 s.speed.rate ++ putBool s.speed.settled ++
  put1 (setClearCode s.speed.moving)

/-! ### Service (R175 to R178, R182) -/

def State.forceBytes (s : State) : List Byte := putList (s.svc.forces.map (fun f => put1 f.1.val ++ put2 f.2))

def State.overrideBytes (s : State) : List Byte :=
  putList (s.svc.overrides.map (fun o => put1 o.1.code ++ put1 o.2.code))

def State.serviceReport (s : State) : List Byte :=
  putBool s.svc.isOpen ++ put1 s.svc.lastClose.code ++ s.forceBytes ++ s.overrideBytes ++ putBool s.svc.sweepRunning ++
  (s.svc.sweep.toList.map (fun r => put1 r.code)).flatten ++ put1 s.svc.sweepResult.code

/-! ### Store (R198) -/

/-- The preload result: 0 VALID, 1 STORE_FAULT, 2 with section, item and index; 0FFH for none. -/
def PreloadResult.bytes (r : Option PreloadResult) : List Byte :=
  match r with
  | none => putIndex none ++ put1 0 ++ put1 0 ++ putIndex none
  | some .valid => put1 0 ++ put1 0 ++ put1 0 ++ putIndex none
  | some .storeFault => put1 1 ++ put1 0 ++ put1 0 ++ putIndex none
  | some (.failed sect item index) => put1 2 ++ put1 sect ++ put1 item ++ putIndex index

/-- The store report (R198).  The requesters with a pending access are sent as a mask in rank order, rank 1 in bit 0, a layout
that the manual does not fix (DESIGN CHOICE, log entry 10). -/
def State.storeReport (s : State) : List Byte :=
  let w := s.store.waiting
  put1 s.store.cfgState.code ++ putCode (s.store.source.map CfgSource.code) ++ PreloadResult.bytes s.store.result ++
  putBool s.store.releasing ++ putBool s.store.faultStands ++
  (match s.store.lastFailure with
   | some (r, a, page) => put1 r.code ++ put1 a.code ++ put1 page
   | none => putIndex none ++ put1 0 ++ put1 0) ++
  putCode (s.store.inFlight.map (fun a => a.purpose.requester.code)) ++
  put1 (maskOf [w.preload.isSome, w.parkFlush.isSome, w.record.isSome, w.service.isSome, w.display.isSome])

/-! ### Power (R211) -/

def WakeEnables.bytes (e : Option WakeEnables) : List Byte :=
  match e with
  | some x => put1 (enableCode x.key) ++ put1 (enableCode x.handle) ++ put1 (enableCode x.link)
  | none => putIndex none ++ putIndex none ++ putIndex none

def State.powerReport (s : State) : List Byte :=
  let p := s.power
  put1 p.mode.code ++ put1 p.lastReset.code ++ put1 p.lastWake.code ++ put1 (onOffCode p.acc.level) ++
  put1 (onOffCode p.ign.level) ++ put1 (onOffCode p.crank.level) ++ put2 p.supply ++ put1 p.supplyClass.code ++
  put1 p.parkBrake ++ putTimer p.offTimer ++ putTimer p.parkTimer ++ putBool s.gaugesAtRest ++ putBool s.flushDone ++
  putBool s.accessInFlight ++ putTimer p.claim ++ WakeEnables.bytes p.enables

/-! ### Gauges (R71) -/

/-- The active source, sweep and enabled; 0FEH, 0 and 0FFH where no configuration is present. -/
def Gauge.configBytes (G : Gauge) : List Byte :=
  match G.active with
  | some c =>
    (match c.source with
     | .channel ch => put1 ch.val
     | .fed => put1 255) ++ put2 c.sweep ++ putBool c.enabled
  | none => put1 254 ++ put2 0 ++ put1 255

def Gauge.bytes (G : Gauge) : List Byte :=
  put1 G.state.code ++ putBool G.known ++ put2 G.position ++ put2 G.target ++ put2 G.face ++ put2 G.angle ++
  putBool G.stale ++ put2 G.feedAge ++ putBool G.staged.isSome ++ put1 G.phase.code ++ G.configBytes

def State.gaugesReport (s : State) : List Byte := (s.gauges.gauge.toList.map Gauge.bytes).flatten

/-! ### Status (R215) and report contents (R216) -/

/-- R215: the status.  The topic enables of the asking link go as one mask byte, rank 1 in bit 0 and 1 for enabled, as
REPORT_SET brings them: the model's choice (DESIGN CHOICE, log entry 10). -/
def State.statusBytes (s : State) (l : LinkId) : List Byte :=
  put1 s.store.cfgState.code ++ putCode (s.store.source.map CfgSource.code) ++ putBool s.store.faultStands ++
  put1 s.power.mode.code ++ put1 s.power.lastReset.code ++ put1 s.power.lastWake.code ++ putBool s.svc.isOpen ++
  putBool s.svc.sweepRunning ++ put1 (maskOf (s.link l).enabled.toList) ++ putBool (s.link (otherLink l)).inFlight.isSome

/-- R217: a SIGNALS report. -/
def State.signalsReport (s : State) (w : Option SignalsWindow) : List Byte :=
  match w with
  | some x =>
    let n := spanDone x.first x.count 29
    put1 x.first ++ put1 n ++ s.signalEntries 0 x.first n
  | none => put1 0 ++ put1 0

/-- R216: a report's content on a link. -/
def State.report (s : State) (l : LinkId) (t : Topic) : List Byte :=
  match t with
  | .warnings => s.warningsReport
  | .doors => s.doorsBytes
  | .power => s.powerReport
  | .service => s.serviceReport
  | .store => s.storeReport
  | .faults => s.faultsReport
  | .gauges => s.gaugesReport
  | .signals => s.signalsReport (s.link l).window

end Sys2Proof.Machine
end

