-- ==== Sys2Proof/Machine/Links.lean ====
section
/-!
DEFINITION. The Link Interface (chapter 11): the transmitter, the end of every command, the admission of requests, and the
receiver.
-/

namespace Sys2Proof.Machine

/-! ### Transmitter (R214, R216) -/

/-- R216: the highest-ranked pending topic of a link. -/
def Link.topTopic (r : Link) : Option Topic := Topic.all.find? (fun t => r.flag[t.index])

/-- R216: a report frame. -/
def reportFrame (t : Topic) (seq : Byte) (content : List Byte) : Frame :=
  { kind := 0x03#8, code := t.reportCode, tag := seq, payload := content, restarts := false }

/-- R214, R216: a free transmitter starts the oldest reply, or with the queue empty the report of the highest-ranked
pending topic, whose content is formed now. -/
def pumpLink (l : LinkId) (s : State) : State :=
  let r := s.link l
  match r.tx, r.replies with
  | some _, _ => s
  | none, f :: rest => s.modLink l (fun k => { k with tx := some f, replies := rest })
  | none, [] =>
    match r.topTopic with
    | none => s
    | some t =>
      s.modLink l (fun k =>
        { k with tx := some (reportFrame t k.seq (s.report l t)), flag := k.flag.set t.index false, seq := k.seq + 1 })

def pumpLinks (s : State) : State := pumpLink .service (pumpLink .display s)

/-! ### The end of a command -/

/-- R206: a mode evaluation at each change of a parking condition, until none changes; `fuel` bounds the rounds. -/
def settleMode : Nat → Bool × Bool × Bool × Bool → State → State
  | 0, _, s => s
  | fuel + 1, before, s => if s.parkConditions = before then s else settleMode fuel s.parkConditions (modeEval s)

/-- R71: the items of the gauges whose change makes GAUGES pending. -/
def State.gaugeItems (s : State) : List (PointerState × Bool × SweepPhase × Bool) := s.gauges.gauge.toList.map Gauge.items

/-- R211: the items whose change makes POWER pending. -/
structure PowerItems where
  mode : PowerMode
  acc : Bool
  ign : Bool
  crank : Bool
  supplyClass : SupplyClass
  parkBrake : Nat
  claim : Bool
  parking : Option (Bool × Bool × Bool × Bool)
  deriving DecidableEq, Repr

def State.powerItems (s : State) : PowerItems :=
  { mode := s.power.mode, acc := s.power.acc.level, ign := s.power.ign.level, crank := s.power.crank.level,
    supplyClass := s.power.supplyClass, parkBrake := s.power.parkBrake, claim := s.power.claim.isSome,
    parking := if s.power.mode = .parking then some s.parkConditions else none }

/-- Bound on the mode evaluations of one command. -/
def modeRounds : Nat := 4

/-- What every command ends with: the mode evaluations that a change of a parking condition calls for (R203), the topics
GAUGES and POWER (R71, R211), and the transmitters (R214). -/
def finish (s0 s1 : State) : State :=
  let s := settleMode modeRounds s0.parkConditions s1
  pumpLinks (topicIf (decide (s.powerItems ≠ s0.powerItems)) .power
    (topicIf (decide (s.gaugeItems ≠ s0.gaugeItems)) .gauges s))

/-- An event of the running part: it has its effect while supply is applied and the mode is not WATCH (R208). -/
def whenAwake (f : State → State) (s : State) : State := if s.awake then finish s (f s) else s

/-- An event of WATCH (R208): it ends in WATCH, where the links send nothing, or in a WAKE reset. -/
def whenWatching (f : State → State) (s : State) : State := if s.powered && s.power.mode == .watch then f s else s

/-! ### Admission (R213) -/

/-- What an owner answers: a reply now, or a reply held until a store access ends. -/
inductive Answer where
  | now (st : Status) (fields : List Byte) (restarts : Bool)
  | held
  deriving DecidableEq, Repr

/-- What an owner does with a request. -/
structure Served where
  state : State
  answer : Answer
  deriving DecidableEq, Repr

/-- A request served with a plain reply and no RESTART after it. -/
def answerNow (st : Status) (fields : List Byte) (s : State) : Served := { state := s, answer := .now st fields false }

/-- A request without effect. -/
def refuse (st : Status) (s : State) : Served := answerNow st [] s

/-- The catalogue (R213): the links that may send a code. -/
inductive Permit where
  | both
  | displayOnly
  | serviceOnly
  deriving DecidableEq, Repr

/-- R213, R214: the catalogue. -/
def catalogue (code : Nat) : Option Permit :=
  match code with
  | 0x20 | 0x21 | 0x23 | 0x24 | 0x28 | 0x2A | 0x2C | 0x2D | 0x30 | 0x31 | 0x32 | 0x33 | 0x47 => some .both
  | 0x22 | 0x25 | 0x26 | 0x27 | 0x29 | 0x2B | 0x2E | 0x2F => some .displayOnly
  | 0x40 | 0x41 | 0x42 | 0x43 | 0x44 | 0x45 | 0x46 | 0x48 | 0x49 | 0x4A | 0x4B => some .serviceOnly
  | _ => none

def Permit.allows : Permit → LinkId → Bool
  | .both, _ => true
  | .displayOnly, l => l == .display
  | .serviceOnly, l => l == .service

/-- R167: codes that need service mode on the Service Link. -/
def needsService (code : Nat) : Bool :=
  match code with
  | 0x23 | 0x42 | 0x43 | 0x44 | 0x45 | 0x46 | 0x48 | 0x49 | 0x4A | 0x4B => true
  | _ => false

/-- R213: the oldest eight reply places are general, the ninth is the in-flight request's. -/
def generalPlaces : Nat := 8
def replyPlaces : Nat := 9

/-- R213: an owner's answer placed, or the request kept in flight. -/
def placeAnswer (l : LinkId) (code tag : Byte) (v : Served) : State :=
  match v.answer with
  | .now st fields restarts => placeReply l (replyFrame code tag st fields restarts) v.state
  | .held => v.state.modLink l (fun r => { r with inFlight := some (code, tag) })

/-- R213: tests 3 to 7, which give the answer; `owner` is none where the payload's size is wrong. -/
def serveRequest (l : LinkId) (code : Byte) (owner : Option (State → Served)) (s : State) : Served :=
  match catalogue code.toNat with
  | none => refuse .unknownRequest s
  | some p =>
    if !p.allows l then refuse .locked s
    else if l = .service ∧ needsService code.toNat = true ∧ s.svc.isOpen = false then refuse .serviceClosed s
    else match owner with
      | none => refuse .badArg s
      | some f => f s

/-- R213: a request at its acceptance. -/
def takeRequest (l : LinkId) (code tag : Byte) (owner : Option (State → Served)) (s : State) : State :=
  let r := s.link l
  if r.inFlight.isSome then
    if r.replies.length ≥ generalPlaces then s else placeReply l (replyFrame code tag .busy [] false) s
  else if r.replies.length ≥ replyPlaces then s
  else if s.store.cfgState = .preloading ∧ code ≠ 0x20#8 then placeReply l (replyFrame code tag .notReady [] false) s
  else placeAnswer l code tag (serveRequest l code owner s)

/-- R170, R212: an accepted frame on the Service Link returns the silence timer to 0. -/
def resetSilence (l : LinkId) (s : State) : State :=
  if l = .service ∧ s.svc.silence.isSome then { s with svc := { s.svc with silence := some 0 } } else s

/-- R212: a link's receiver in HUNT with an empty buffer, as an accepted frame leaves it. -/
def State.hunting (s : State) (l : LinkId) : State := s.modLink l (fun r => { r with rx := [] })

/-- R208, R212: an accepted frame leaves the receiver in HUNT, and is a link wake in WATCH, else it has the given treatment
after the silence timer's return. -/
def onFrame (l : LinkId) (f : State → State) (s : State) : State :=
  if s.powered then
    if s.power.mode = .watch then linkWake (s.hunting l) else finish s (f (resetSilence l (s.hunting l)))
  else s

/-- A typed request as the frame that carries it. -/
def onRequest (l : LinkId) (code tag : Byte) (owner : State → Served) (s : State) : State :=
  onFrame l (takeRequest l code tag (some owner)) s

/-! ### Receiver (R212) -/

/-- The receiver's modes. -/
inductive RxMode where
  | hunt
  | length
  | body
  | check
  deriving DecidableEq, Repr

/-- The mode that a buffer stands for: the sync taken and the bytes after it. -/
def rxMode : List Byte → RxMode
  | [] => .hunt
  | [_] => .length
  | _ :: len :: rest => if rest.length < len.toNat then .body else .check

/-- What the bytes from a sync on give: more bytes are needed, they are bad, or a frame stands at their head. -/
inductive RxVerdict where
  | more
  | bad
  | frame (kind code tag : Byte) (payload rest : List Byte)
  deriving DecidableEq, Repr

/-- R212: the examination of the bytes after a sync. -/
def examine (after : List Byte) : RxVerdict :=
  match after with
  | [] => .more
  | len :: rest =>
    let n := len.toNat
    if n < 3 ∨ n > 123 then .bad
    else if rest.length < n + 1 then .more
    else if sum8 (len :: rest.take (n + 1)) ≠ 0 then .bad
    else
      match rest with
      | kind :: code :: tag :: more => .frame kind code tag (more.take (n - 3)) (more.drop (n - 3 + 1))
      | _ => .bad

/-- R212: the bytes from the first sync on. -/
def hunt : List Byte → List Byte
  | [] => []
  | b :: bs => if b = 0x7E#8 then b :: bs else hunt bs

/-- R212: the frames accepted from the bytes of a line, and the buffer left; a bad length or a bad check discards the
sync only.  `fuel` bounds the syncs examined. -/
def receive : Nat → List Byte → List (Byte × Byte × Byte × List Byte) × List Byte
  | 0, buf => ([], buf)
  | fuel + 1, buf =>
    match hunt buf with
    | [] => ([], [])
    | sync :: after =>
      match examine after with
      | .more => ([], sync :: after)
      | .bad => receive fuel after
      | .frame kind code tag payload rest =>
        let r := receive fuel rest
        ((kind, code, tag, payload) :: r.1, r.2)

end Sys2Proof.Machine
end

