-- ==== Sys2Proof/Machine/Requests.lean ====
section
/-!
DEFINITION. What the owner of each request does with it: test 7 of R213, the tests and the effect of its own rule.
-/

namespace Sys2Proof.Machine

/-- Whether a list of indices names one twice. -/
def hasDuplicate : List Nat → Bool
  | [] => false
  | x :: xs => xs.contains x || hasDuplicate xs

/-! ### Reads: STATUS_GET, SIGNALS_GET, WARN_LIST, DOORS_GET, ODO_GET, FAULT_READ -/

/-- R215. -/
def serveStatus (l : LinkId) (s : State) : Served := answerNow .ok (s.statusBytes l) s

/-- R26. -/
def serveSignals (first count detail : Byte) (s : State) : Served :=
  let f := first.toNat
  let c := count.toNat
  if f > 39 ∨ c = 0 ∨ c > 40 ∨ detail.toNat > 1 then refuse .badArg s
  else
    let n := spanDone f c (if detail.toNat = 0 then 29 else 9)
    answerNow .ok (put1 f ++ put1 n ++ s.signalEntries detail.toNat f n) s

/-- R127. -/
def serveWarnList (part start : Byte) (s : State) : Served :=
  if part.toNat > 1 ∨ start.toNat > 55 then refuse .badArg s
  else answerNow .ok (s.warnListBytes part.toNat start.toNat) s

/-- R97. -/
def serveDoors (s : State) : Served := answerNow .ok s.doorsBytes s

/-- R43. -/
def serveOdo (s : State) : Served := answerNow .ok s.odoBytes s

/-- R161. -/
def serveFaultRead (start filter : Byte) (s : State) : Served :=
  if start.toNat > 31 ∨ filter.toNat > 1 then refuse .badArg s
  else answerNow .ok (s.faultReadBytes start.toNat (filter == 1#8)) s

/-! ### Gauges: FEED, GAUGE_SET -/

/-- R56: one entry stored. -/
def feedEntry (s : State) (e : Byte × Half) : State :=
  if h : e.1.toNat < 6 then s.modGauge ⟨e.1.toNat, h⟩ (fun G => { G with fed := some e.2.toNat, feedAge := 0 }) else s

/-- R56. -/
def serveFeed (entries : List (Byte × Half)) (s : State) : Served :=
  if entries.isEmpty || decide (entries.length > 6) || entries.any (fun e => decide (e.1.toNat > 5)) ||
     hasDuplicate (entries.map (fun e => e.1.toNat)) then refuse .badArg s
  else answerNow .ok [] (entries.foldl feedEntry s)

/-- R214: the fields of BAD_CONFIG. -/
def badConfigBytes (sect item : Nat) (index : Option Nat) : List Byte := put1 sect ++ put1 item ++ putIndex index

/-- R68. -/
def serveGaugeSet (gauge : Byte) (record : GaugeRaw) (s : State) : Served :=
  if s.store.cfgState = .configHold then refuse .refusedMode s
  else if h : gauge.toNat < 6 then
    match gaugeFailingItem record with
    | some item => answerNow .badConfig (badConfigBytes 3 item (some gauge.toNat)) s
    | none =>
      answerNow .accepted []
        (raiseTopic .gauges (s.modGauge ⟨gauge.toNat, h⟩ (fun G => { G with staged := some (gaugeCfgOf record) })))
  else refuse .badArg s

/-! ### Warnings: WARN_ACK, FEED_WARN, CLASS_MAP_SET -/

/-- R124: the presented entry acknowledged, and removed where its condition is gone. -/
def ackEntry (w : Fin 56) (m : WarningManager) : WarningManager :=
  let t := m.modEntry w (fun e => { e with acked := true })
  if m.active.any (fun e => e.defn == w && !e.present) then t.remove w else t

/-- R124. -/
def serveWarnAck (index : Byte) (s : State) : Served :=
  if index.toNat > 55 then refuse .badArg s
  else
    match s.warn.presented with
    | none => answerNow .staleAck (putIndex none) s
    | some w =>
      if w.val = index.toNat then answerNow .ok [] (closingSteps s (s.modWarn (ackEntry w)))
      else answerNow .staleAck (put1 w.val) s

/-- R108: whether a definition index names a FED definition in use. -/
def State.isFed (s : State) (n : Nat) : Bool :=
  if h : n < 48 then
    let d := s.warn.defs[n]
    d.inUse && d.kind == .fed
  else false

/-- R108: one entry taken. -/
def feedWarnEntry (s : State) (e : Byte × Byte) : State :=
  if h : e.1.toNat < 48 then
    s.modWarn (fun m => { m with fedFlag := m.fedFlag.set e.1.toNat (e.2 == 1#8) })
  else s

/-- R108. -/
def serveFeedWarn (entries : List (Byte × Byte)) (s : State) : Served :=
  if entries.isEmpty || decide (entries.length > 8) || entries.any (fun e => !s.isFed e.1.toNat || decide (e.2.toNat > 1)) ||
     hasDuplicate (entries.map (fun e => e.1.toNat)) then refuse .badArg s
  else answerNow .ok [] (entries.foldl feedWarnEntry s)

/-- R122. -/
def serveClassMap (classes : Vector Byte 8) (s : State) : Served :=
  if classes.toList.any (fun c => decide (c.toNat > 3)) then refuse .badArg s
  else
    let map : Vector WarnClass 8 := Vector.ofFn (fun i => (WarnClass.ofCode classes[i].toNat).getD .silent)
    let stops := ((indices 56).filter (fun w => s.warn.defs[w].inUse && map[s.warn.defs[w].severity] == .stop)).length
    if stops > 16 then answerNow .badConfig (badConfigBytes 5 12 none) s
    else answerNow .ok [] (closingSteps s (s.modWarn (WarningManager.remap map)))

/-! ### Doorways: RELEASE_ACK -/

/-- R85, R86: the phase after an acknowledgement, where one is owed. -/
def ReleasePhase.acknowledge : ReleasePhase → Option ReleasePhase
  | .pulled => some .acked
  | .restoredUnacked => some .none
  | .none => Option.none
  | .acked => Option.none

/-- R86. -/
def serveReleaseAck (doorway : Byte) (s : State) : Served :=
  if h : doorway.toNat < 4 then
    let d : Fin 4 := ⟨doorway.toNat, h⟩
    let D := s.doors.door[d]
    if D.state = .disabled then refuse .notPending s
    else
      match D.phase.acknowledge with
      | some ph => answerNow .ok [] (doorEvalFrom s (s.modDoor d (fun x => { x with phase := ph })))
      | none => refuse .notPending s
  else refuse .badArg s

/-! ### Lamps: LAMP_SET, LAMP_RESET -/

/-- R135: one entry taken. -/
def lampSetEntry (s : State) (e : Byte × Byte) : State :=
  if h : e.1.toNat < 12 then s.modLamp ⟨e.1.toNat, by omega⟩ (fun L => { L with displayDemand := e.2 == 1#8 }) else s

/-- R135: whether an index names a lamp whose function is TELLTALE. -/
def State.isTelltale (s : State) (n : Nat) : Bool := if h : n < 12 then s.out.lamp[n].fn == .telltale else false

/-- R135. -/
def serveLampSet (entries : List (Byte × Byte)) (s : State) : Served :=
  if entries.isEmpty || decide (entries.length > 12) ||
     entries.any (fun e => !s.isTelltale e.1.toNat || decide (e.2.toNat > 1)) ||
     hasDuplicate (entries.map (fun e => e.1.toNat)) then refuse .badArg s
  else
    let t := outputEval (entries.foldl lampSetEntry s)
    answerNow .ok t.snapshot t

/-- R140: the lamps that a mask returns to NORMAL. -/
def State.lampsToRestore (s : State) (mask : Nat) : List (Fin 16) :=
  (indices 16).filter (fun l => maskBit mask l.val && s.out.lamp[l].protection != .normal)

/-- R140: LAMP_RESET.  That the cleared notices of several lamps go out in index order, so that the last change names the
highest lamp returned, is the model's choice (DESIGN CHOICE, log entry 36). -/
def serveLampReset (mask : Half) (s : State) : Served :=
  let lamps := s.lampsToRestore mask.toNat
  let t := outputEval (lamps.foldl restoreLamp s)
  answerNow .ok (put2 (maskOf ((indices 16).map (fun l => lamps.contains l))) ++ t.snapshot) t

/-! ### Meters: TRIP_CLEAR, ODO_SET -/

/-- R42. -/
def serveTripClear (trip : Byte) (s : State) : Served :=
  match trip.toNat with
  | 0 => answerNow .ok [] { s with speed := { s.speed with tripA := 0 } }
  | 1 => answerNow .ok [] { s with speed := { s.speed with tripB := 0 } }
  | _ => refuse .badArg s

/-- R44. -/
def serveOdoSet (value : Word) (s : State) : Served :=
  if value.toNat > 99999999 then refuse .badArg s
  else if s.speed.loaded = false then refuse .storeFault s
  else if value.toNat < s.speed.working ∨ s.speed.working > 500 then refuse .refusedMode s
  else
    let t := withdrawScheduled { s with speed := { s.speed with working := value.toNat } }
    { state := handLinkAccess .service .odoSet t, answer := .held }

/-! ### Reports: REPORT_SET -/

/-- R217: the topic flags under a new mask: a disabled topic loses its flag, a newly enabled one becomes pending. -/
def flagsUnder (mask : Nat) (r : Link) : Vector Bool 8 :=
  Vector.ofFn (fun i => maskBit mask i.val && (r.flag[i] || !r.enabled[i]))

/-- R217: a link's record under new settings. -/
def Link.setReports (mask interval first count : Nat) (r : Link) : Link :=
  { r with
    enabled := Vector.ofFn (fun i => maskBit mask i.val), flag := flagsUnder mask r
    window := if maskBit mask 7 then some { interval := interval, first := first, count := count } else r.window
    period := if maskBit mask 7 then some 0 else none }

/-- R217. -/
def serveReportSet (l : LinkId) (mask : Byte) (interval : Half) (first count : Byte) (s : State) : Served :=
  let n := interval.toNat
  if maskBit mask.toNat 7 = true ∧
     (n < 100 ∨ n > 5000 ∨ first.toNat > 39 ∨ count.toNat < 1 ∨ count.toNat > 29) then refuse .badArg s
  else
    answerNow .ok (put1 mask.toNat ++ put2 n ++ put1 first.toNat ++ put1 count.toNat)
      (s.modLink l (Link.setReports mask.toNat n first.toNat count.toNat))

/-! ### Power: POWER_HOLD, POWER_FREE -/

/-- R207: the claim's whole time, in ms. -/
def claimTime : Nat := 30000

/-- R207. -/
def servePowerHold (s : State) : Served :=
  answerNow .ok (put2 claimTime) (s.modPower (fun p => { p with claim := some claimTime }))

/-- R207. -/
def servePowerFree (s : State) : Served :=
  answerNow .ok (putBool s.power.claim.isSome) (s.modPower (fun p => { p with claim := none }))

/-! ### Store: STORE_READ, STORE_WRITE, CONFIG_PUT, CONFIG_RELEASE -/

/-- The largest count of a STORE_READ, STORE_WRITE or CONFIG_PUT (chapter 9). -/
def largestSpan : Nat := 96

/-- R189. -/
def serveStoreRead (l : LinkId) (area : Byte) (offset : Half) (count : Byte) (s : State) : Served :=
  match Area.ofCode area.toNat with
  | none => refuse .badArg s
  | some a =>
    if count.toNat = 0 ∨ count.toNat > largestSpan ∨ offset.toNat ≥ a.size then refuse .badArg s
    else
      { state := handLinkAccess l (.linkRead l a offset.toNat (min count.toNat (a.size - offset.toNat))) s,
        answer := .held }

/-- R190: the refusals that an area and an offset earn. -/
def writeRefusal (l : LinkId) (a : Area) (offset : Nat) (isOpen : Bool) : Option Status :=
  match a with
  | .config => some .locked
  | .odo => some .locked
  | .faults => some .locked
  | .ident =>
    if l = .display ∨ offset < 128 then some .locked
    else if isOpen then none else some .serviceClosed
  | .user => none

/-- R190. -/
def serveStoreWrite (l : LinkId) (area : Byte) (offset : Half) (bytes : List Byte) (s : State) : Served :=
  match Area.ofCode area.toNat with
  | none => refuse .badArg s
  | some a =>
    if bytes.length = 0 ∨ bytes.length > largestSpan then refuse .badArg s
    else
      match writeRefusal l a offset.toNat s.svc.isOpen with
      | some st => refuse st s
      | none =>
        if offset.toNat ≥ a.size then refuse .badArg s
        else
          { state := handLinkAccess l
              (.linkWrite l a offset.toNat (bytes.take (a.size - offset.toNat)) (decide (a = .ident))) s,
            answer := .held }

/-- R194, R195: the refusals of the link and of service mode in READY. -/
def uploadRefusal (l : LinkId) (s : State) : Option Status :=
  if s.store.cfgState = .ready then
    if l = .display then some .locked else if s.svc.isOpen then none else some .serviceClosed
  else none

/-- The size of the staging image (R194). -/
def stagingSize : Nat := 4096

/-- R194. -/
def serveConfigPut (l : LinkId) (offset : Half) (bytes : List Byte) (s : State) : Served :=
  match uploadRefusal l s with
  | some st => refuse st s
  | none =>
    if s.store.releasing = true ∨ s.store.source = some .unsaved then refuse .refusedMode s
    else if bytes.length = 0 ∨ bytes.length > largestSpan ∨ offset.toNat ≥ stagingSize then refuse .badArg s
    else
      let kept := bytes.take (stagingSize - offset.toNat)
      answerNow .ok (put1 kept.length)
        { s with store := { s.store with staging := Mem.writeBytes 0#8 s.store.staging offset.toNat kept } }

/-- R195. -/
def serveConfigRelease (l : LinkId) (s : State) : Served :=
  match uploadRefusal l s with
  | some st => refuse st s
  | none =>
    if s.store.releasing then refuse .refusedMode s
    else
      match imageFailure (stagingByte s.store.staging) with
      | some f => answerNow .badConfig (badConfigBytes f.sect f.item f.index) s
      | none =>
        let t := raiseTopic .store { s with store := { s.store with releasing := true } }
        { state := handLinkAccess l (.release l (decide (s.store.cfgState = .ready))) t, answer := .held }

/-! ### Service access: SERVICE_OPEN, SERVICE_CLOSE, FORCE, UNFORCE, OUTPUT_TEST, OUTPUT_FREE, SWEEP, RESTART -/

/-- R168. -/
def serveOpen (s : State) : Served :=
  let c := s.openingConditions
  if c.1 && c.2.1 && c.2.2 then
    if s.svc.isOpen then answerNow .ok [] s
    else answerNow .ok [] (raiseTopic .service { s with svc := { s.svc with isOpen := true, silence := some 0 } })
  else answerNow .refusedMode (put1 (maskOf [!c.1, !c.2.1, !c.2.2])) s

/-- R172. -/
def serveClose (s : State) : Served :=
  let t := closeService .request s
  answerNow .ok (putBool t.svc.isOpen ++ put1 t.svc.lastClose.code) t

/-- R165: the largest value of a channel's kind. -/
def channelMax (i : Nat) : Nat := if i < 30 then 1 else if i < 38 then 4095 else if i = 38 then 25000 else 65535

/-- The capacity of the force list and of the override list (R165). -/
def serviceCapacity : Nat := 8

/-- R165: an item of a keyed list put in: in its place where the key is in the list, else at the end. -/
def putItem {α β : Type} [DecidableEq α] (k : α) (v : β) (items : List (α × β)) : List (α × β) :=
  if items.any (fun x => decide (x.1 = k)) then items.map (fun x => if x.1 = k then (k, v) else x) else items ++ [(k, v)]

/-- R165: an item removed; the others keep their order. -/
def dropItem {α β : Type} [DecidableEq α] (k : α) (items : List (α × β)) : List (α × β) :=
  items.filter (fun x => decide (x.1 ≠ k))

/-- Whether a keyed list holds a key. -/
def hasItem {α β : Type} [DecidableEq α] (k : α) (items : List (α × β)) : Bool := items.any (fun x => decide (x.1 = k))

/-- R175, R176: a new force list, applied at every block, with SERVICE pending where it differs (R182). -/
def setForces (forces : List (Fin 40 × Nat)) (s : State) : State :=
  topicIf (decide (forces ≠ s.svc.forces)) .service (applyLists s { s with svc := { s.svc with forces := forces } })

/-- R177, R178: a new override list, applied at every block, with SERVICE pending where it differs (R182). -/
def setOverrides (overrides : List (OutputId × Setting)) (s : State) : State :=
  topicIf (decide (overrides ≠ s.svc.overrides)) .service
    (applyLists s { s with svc := { s.svc with overrides := overrides } })

/-- R175. -/
def serveForce (channel : Byte) (value : Half) (s : State) : Served :=
  if h : channel.toNat < 40 then
    let i : Fin 40 := ⟨channel.toNat, h⟩
    if value.toNat > channelMax channel.toNat then refuse .badArg s
    else if s.holder .parkBrake = some i then refuse .refusedMode s
    else if hasItem i s.svc.forces = false ∧ s.svc.forces.length ≥ serviceCapacity then refuse .badArg s
    else
      let t := setForces (putItem i value.toNat s.svc.forces) s
      answerNow .ok t.forceBytes t
  else refuse .badArg s

/-- R176. -/
def serveUnforce (channel : Byte) (s : State) : Served :=
  if h : channel.toNat < 40 then
    let i : Fin 40 := ⟨channel.toNat, h⟩
    let t := setForces (dropItem i s.svc.forces) s
    answerNow .ok (putBool (hasItem i s.svc.forces) ++ t.forceBytes) t
  else refuse .badArg s

/-- R177: whether an output may take a setting. -/
def OutputId.takes (o : OutputId) (st : Setting) : Bool :=
  match o with
  | .db => st != .flash
  | .di => st != .flash
  | .lamp _ => true
  | .chime => true

/-- R177. -/
def serveOutputTest (output setting : Byte) (s : State) : Served :=
  match OutputId.ofCode output.toNat, Setting.ofCode setting.toNat with
  | some o, some st =>
    if !o.takes st then refuse .badArg s
    else if hasItem o s.svc.overrides = false ∧ s.svc.overrides.length ≥ serviceCapacity then refuse .badArg s
    else
      let t := setOverrides (putItem o st s.svc.overrides) s
      answerNow .ok (t.overrideBytes ++ t.snapshot) t
  | _, _ => refuse .badArg s

/-- R178. -/
def serveOutputFree (output : Byte) (s : State) : Served :=
  match OutputId.ofCode output.toNat with
  | some o =>
    let t := setOverrides (dropItem o s.svc.overrides) s
    answerNow .ok (putBool (hasItem o s.svc.overrides) ++ t.overrideBytes ++ t.snapshot) t
  | none => refuse .badArg s

/-- R179: whether a gauge may start a sweep. -/
def Gauge.sweepable (G : Gauge) : Bool := G.state == .tracking || G.state == .held

/-- R179: the named gauges that may not. -/
def State.unsweepable (s : State) (mask : Nat) : List Bool :=
  (indices 6).map (fun g => maskBit mask g.val && !s.gauges.gauge[g].sweepable)

/-- R179: the accepted sweep. -/
def startSweeps (mask : Nat) (s : State) : State :=
  let t := { s with
    svc := { s.svc with
      sweepRunning := true, sweepResult := .none,
      sweep := Vector.ofFn (fun g => if maskBit mask g.val then .inSweep else .notNamed) }
    gauges := { s.gauges with
      gauge := updAll s.gauges.gauge (fun g G => if maskBit mask g.val then G.startSweep else G) } }
  raiseTopic .service t

/-- R179. -/
def serveSweep (mask : Byte) (s : State) : Served :=
  if mask.toNat = 0 ∨ mask.toNat ≥ 64 then refuse .badArg s
  else if s.svc.sweepRunning then answerNow .refusedMode (put1 0) s
  else if maskOf (s.unsweepable mask.toNat) ≠ 0 then
    answerNow .refusedMode (put1 (maskOf (s.unsweepable mask.toNat))) s
  else answerNow .accepted [] (startSweeps mask.toNat s)

/-- R181. -/
def serveRestart (s : State) : Served := { state := s, answer := .now .ok [] true }

/-! ### FAULT_CLEAR -/

/-- R162 step 1: the mirror emptied. -/
def emptyMirror (s : State) : State :=
  let m := s.fault
  raiseTopic .faults { s with fault :=
    { m with
      record := Vector.replicate 32 none
      dirty := Vector.ofFn (fun p => m.dirty[p] || m.record[p].isSome)
      headerDirty := m.headerDirty || s.recordCount != 0 || m.overflow
      overflow := false, lastChange := none } }

/-- R162 step 3: the faults present now, in the order of its table, with their contexts. -/
def State.presentFaults (s : State) : List (FaultCode × Option (Nat × Nat)) :=
  ((indices 40).filterMap (fun i =>
    (condFault s.sig.chan[i].cond).map (fun k => ({ source := .channel, index := i.val, kind := k }, none)))) ++
  ((indices 16).filter (fun l => s.out.lamp[l].protection != .normal)).map (fun l => (overcurrentCode l, none)) ++
  ((indices 16).filter (fun l => decide (l.val < 12) && s.out.lamp[l].openState)).map (fun l => (lampFailCode l, none)) ++
  ((indices 4).filter (fun d => s.doors.door[d].confirmed)).map (fun d => (contradictionCode d, s.doors.door[d].context)) ++
  (if s.store.faultStands then [(storeFaultCode, none)] else []) ++
  ((indices 56).filter (fun w => s.warn.defs[w].record && s.warn.trigger[w].state == .on)).map (fun w => (warningCode w, none))

/-- R162 step 3: one fault re-created. -/
def recreate (s : State) (c : FaultCode × Option (Nat × Nat)) : State := takePresent c.1 s.freezeNow c.2 s

/-- R162. -/
def serveFaultClear (s : State) : Served :=
  let t := withdrawFaultItems (emptyMirror s)
  { state := handLinkAccess .service .faultClear (s.presentFaults.foldl recreate t), answer := .held }

end Sys2Proof.Machine
end

