-- ==== Sys2Proof/Machine/Operands.lean ====
section
/-!
DEFINITION. The payloads of the catalogue's requests as bytes (R213 test 6, R219): fields in the order the owning rule
lists them, multi-byte quantities most significant byte first, a list preceded by its count byte.
-/

namespace Sys2Proof.Machine

/-- A 2-byte field. -/
def half (a b : Byte) : Half := a ++ b

/-- A 4-byte field. -/
def word (a b c d : Byte) : Word := (a ++ b) ++ (c ++ d)

/-- Entries of a byte and a 2-byte quantity. -/
def byteHalves : List Byte → Option (List (Byte × Half))
  | [] => some []
  | i :: a :: b :: rest => (byteHalves rest).map (fun es => (i, half a b) :: es)
  | _ => none

/-- Entries of two bytes. -/
def bytePairs : List Byte → Option (List (Byte × Byte))
  | [] => some []
  | i :: v :: rest => (bytePairs rest).map (fun es => (i, v) :: es)
  | _ => none

/-- A list whose count byte agrees with its size. -/
def counted {α : Type} (parse : List Byte → Option (List α)) (payload : List Byte) : Option (List α) :=
  match payload with
  | n :: rest =>
    match parse rest with
    | some es => if es.length = n.toNat then some es else none
    | none => none
  | [] => none

/-- The bytes of a span in a STORE_WRITE or CONFIG_PUT: a list preceded by its count byte. -/
def countedBytes (payload : List Byte) : Option (List Byte) := counted (fun bs => some bs) payload

/-- The owner of a request code with its fields read from a payload; none where the payload's size or list count is
wrong. -/
def ownerOf (l : LinkId) (code : Nat) (p : List Byte) : Option (State → Served) :=
  match code with
  | 0x20 => match p with
    | [] => some (serveStatus l)
    | _ => none
  | 0x21 => match p with
    | [f, c, d] => some (serveSignals f c d)
    | _ => none
  | 0x22 => (counted byteHalves p).map serveFeed
  | 0x23 => match p with
    | g :: rest => if rest.length = 56 then some (serveGaugeSet g (gaugeRawRead (fun o => rest.getD o 0#8) 0)) else none
    | [] => none
  | 0x24 => match p with
    | [a, b] => some (serveWarnList a b)
    | _ => none
  | 0x25 => match p with
    | [a] => some (serveWarnAck a)
    | _ => none
  | 0x26 => (counted bytePairs p).map serveFeedWarn
  | 0x27 => match p with
    | [a] => some (serveReleaseAck a)
    | _ => none
  | 0x28 => match p with
    | [] => some serveDoors
    | _ => none
  | 0x29 => (counted bytePairs p).map serveLampSet
  | 0x2A => match p with
    | [a, b] => some (serveLampReset (half a b))
    | _ => none
  | 0x2B => match p with
    | [a] => some (serveTripClear a)
    | _ => none
  | 0x2C => match p with
    | [] => some serveOdo
    | _ => none
  | 0x2D => match p with
    | [m, a, b, f, c] => some (serveReportSet l m (half a b) f c)
    | _ => none
  | 0x2E => match p with
    | [] => some servePowerHold
    | _ => none
  | 0x2F => match p with
    | [] => some servePowerFree
    | _ => none
  | 0x30 => match p with
    | [r, a, b, c] => some (serveStoreRead l r (half a b) c)
    | _ => none
  | 0x31 => match p with
    | r :: a :: b :: rest => (countedBytes rest).map (serveStoreWrite l r (half a b))
    | _ => none
  | 0x32 => match p with
    | a :: b :: rest => (countedBytes rest).map (serveConfigPut l (half a b))
    | _ => none
  | 0x33 => match p with
    | [] => some (serveConfigRelease l)
    | _ => none
  | 0x40 => match p with
    | [] => some serveOpen
    | _ => none
  | 0x41 => match p with
    | [] => some serveClose
    | _ => none
  | 0x42 => match p with
    | [c, a, b] => some (serveForce c (half a b))
    | _ => none
  | 0x43 => match p with
    | [c] => some (serveUnforce c)
    | _ => none
  | 0x44 => match p with
    | [o, st] => some (serveOutputTest o st)
    | _ => none
  | 0x45 => match p with
    | [o] => some (serveOutputFree o)
    | _ => none
  | 0x46 => match p with
    | [m] => some (serveSweep m)
    | _ => none
  | 0x47 => match p with
    | [a, f] => some (serveFaultRead a f)
    | _ => none
  | 0x48 => match p with
    | [] => some serveFaultClear
    | _ => none
  | 0x49 => match p with
    | [a, b, c, d] => some (serveOdoSet (word a b c d))
    | _ => none
  | 0x4A => match p with
    | [a, b, c, d, e, f, g, h] => some (serveClassMap #v[a, b, c, d, e, f, g, h])
    | _ => none
  | 0x4B => match p with
    | [] => some serveRestart
    | _ => none
  | _ => none

/-- R212: an accepted frame's treatment outside WATCH: a request is taken, a frame of any other kind is discarded. -/
def takeFrame (l : LinkId) (kind code tag : Byte) (payload : List Byte) (s : State) : State :=
  if kind = 0x01#8 then takeRequest l code tag (ownerOf l code.toNat payload) s else s

end Sys2Proof.Machine
end

