-- ==== Sys2Proof/Machine/Events.lean ====
section
/-!
DEFINITION. The shared operations of the timed events: the timers' advance, the sample event's parts, and the last counts
that the table lists as events of their own (log entries 11 and 12).
-/

namespace Sys2Proof.Machine

/-! ### Timers (log entry 12) -/

/-- The ms between two sample events (R5). -/
def samplePeriod : Nat := 2

/-- A timer that counts up, at most to its limit. -/
def countUp (limit t : Nat) : Nat := min limit (t + samplePeriod)

def FlashHalf.advance (h : FlashHalf) : FlashHalf := { h with elapsed := countUp 250 h.elapsed }

def Playing.advance : Playing → Playing
  | .none => .none
  | .standing p t => .standing p ((t + samplePeriod) % p.cycle)
  | .oneshot p r => .oneshot p (r - samplePeriod)

def Lamp.advance (L : Lamp) : Lamp :=
  { L with wait := L.wait.map (countUp 1000), half := if L.drive = .flash then L.half.advance else L.half }

/-- The SIGNALS period timer of a link (R217). -/
def Link.advance (r : Link) : Link :=
  { r with period := r.period.map (countUp ((r.window.map (fun w => w.interval)).getD 5000)) }

/-- Every running ms timer advanced to this sample event; none expires by it (log entry 12). -/
def advanceTimers (s : State) : State :=
  { s with
    sig := { s.sig with hold := match s.sig.hold with
      | .settle t => .settle (countUp 200 t)
      | h => h }
    gauges := { s.gauges with hold := match s.gauges.hold with
      | .settle r => .settle (r - samplePeriod)
      | h => h }
    doors := { s.doors with door := updAll s.doors.door (fun _ D => { D with timer := D.timer.map (countUp 500) }) }
    out := { s.out with
      lamp := updAll s.out.lamp (fun _ L => L.advance)
      chime := { s.out.chime with
        playing := s.out.chime.playing.advance
        half := if s.overrideOf .chime = some .flash then s.out.chime.half.advance else s.out.chime.half } }
    svc := { s.svc with silence := s.svc.silence.map (countUp 10000) }
    power := { s.power with
      lineSettle := s.power.lineSettle.map (countUp 50), offTimer := s.power.offTimer.map (countUp 500),
      parkTimer := s.power.parkTimer.map (countUp 5000), claim := s.power.claim.map (fun r => r - samplePeriod) }
    links := { display := s.links.display.advance, service := s.links.service.advance } }

/-! ### The sample event (R5) -/

/-- R21: the H records at a sample event; `driven` says which lines are driven high at it. -/
def sampleHandles (driven : Fin 16 → Bool) (levels : BitVec 4) (s : State) : State :=
  (indices 4).foldl (fun t d => if driven (handleLamp d) then t else handleSample (levels.getLsbD d.val) d t) s

/-- R137, R141: the lamp currents at a sample event.  That the lamps' notices of one event go out in the order L0 to L15 is
the model's choice (DESIGN CHOICE, log entry 36). -/
def sampleLamps (energised : Fin 16 → Bool) (currents : Vector (BitVec 12) 16) (s : State) : State :=
  (indices 16).foldl (fun t l => lampSample (energised l) l (currents[l]).toNat t) s

/-- R5, R13: the channels at a sample event, with their declarations and clearings delivered. -/
def sampleChannels (inputs : SampleInputs) (s : State) : State :=
  if s.store.cfgState = .preloading then s else deliverConditions s.sig { s with sig := s.sig.sample inputs }

/-- R202: the supply and its class, from the end of the preload on. -/
def sampleSupply (s : State) : State :=
  if s.store.cfgState = .preloading then s
  else s.modPower (fun p => { p with supply := s.supplyMv, supplyClass := SupplyClass.ofMv s.supplyMv })

/-- R201: the ignition lines at a sample event. -/
def sampleLines (inputs : SampleInputs) (s : State) : State :=
  s.modPower (fun p =>
    { p with acc := p.acc.sample inputs.acc, ign := p.ign.sample inputs.ign, crank := p.crank.sample inputs.crank })

/-- R4: the change notices of channels, taken by the Doorway Monitor, the Output Unit, the Service Unit and the Power
Controller, where `s0` is the state before the event. -/
def changeNotices (s0 s : State) : State := parkBrakeNotice (doorEvalFrom s0 s)

/-- R203: how many of the filtered levels and the supply class changed between two states. -/
def State.modeChanges (s0 s : State) : Nat :=
  [decide (s.power.supplyClass ≠ s0.power.supplyClass), s.power.acc.level != s0.power.acc.level,
    s.power.ign.level != s0.power.ign.level, s.power.crank.level != s0.power.crank.level].count true

/-- R201, R203: `n` mode evaluations, one after another. -/
def modeEvals : Nat → State → State
  | 0, s => s
  | n + 1, s => modeEvals n (modeEval s)

/-- R201 to R203: a mode evaluation for each change of a filtered level or of the supply class.  That each finds all levels and
the class as the whole event left them is the model's choice (DESIGN CHOICE, log entry 17). -/
def evalChanges (s0 s : State) : State := modeEvals (s0.modeChanges s) s

/-- R5: the sample event: every record is updated first, then the notices are given (R4).  The order of its parts is the
model's choice (DESIGN CHOICE, log entry 17), and so is that one doorway evaluation takes all handle changes of the event, and
the role channels' changes with them, where R76 has an evaluation at each (DESIGN CHOICE, log entry 36). -/
def sampleEvent (inputs : SampleInputs) (s0 : State) : State :=
  let s := advanceTimers s0
  let sampled := sampleChannels inputs (sampleLamps s.energised inputs.currents (sampleHandles s.energised inputs.handles s))
  evalChanges s0 (sampleLines inputs (sampleSupply (changeNotices s0 sampled)))

/-! ### Last counts -/

/-- R11, R12: the sample that makes a channel's count reach 50, where it stands at 49 and the channel is qualified. -/
def lastQualification (ch : Fin 40) (s : State) : State :=
  match s.sig.chan[ch].cfg with
  | some g =>
    let t := s.modChan ch (fun c => (({ c with qual := c.qual + 1 } : Channel).settleCond).takeValue g c.cond)
    changeNotices s (deliverConditions s.sig t)
  | none => s

/-- R11, R12: whether a channel's count stands one short of 50 while it is qualified. -/
def State.oneShort (s : State) (ch : Fin 40) : Bool :=
  s.sig.chan[ch].monitored && !s.sig.frozen && s.store.cfgState != .preloading && decide (s.sig.chan[ch].qual ≥ 49) &&
  s.sig.chan[ch].cand.isSome

/-- R21: whether the next sensed sample changes a doorway's H output. -/
def HandleSense.oneShort (h : HandleSense) : Bool := if h.out then decide (h.count ≤ 1) else decide (h.count ≥ 9)

/-- R141: whether the next counted sample changes a lamp's open state. -/
def State.openOneShort (s : State) (l : Fin 16) : Bool :=
  decide (l.val < 12) && s.energised l && s.power.mode != .crank && decide (s.out.lamp[l].openCount ≥ 49) &&
  (s.out.lamp[l].openState || decide (s.out.lamp[l].openLevel > 0))

/-- R104: whether a trigger turns ON at its next evaluation. -/
def State.activates (s : State) (w : Fin 56) : Bool :=
  let d := s.warn.defs[w]
  d.inUse && !s.triggerHeld w d && s.store.cfgState != .preloading && s.warn.trigger[w].state != .on &&
  (s.warnConds w d).1 && s.warn.trigger[w].count == d.onDelay

/-- An effect that applies where a guard holds. -/
def guarded (g : State → Bool) (f : State → State) (s : State) : State := if g s then f s else s

/-! ### WATCH samples (R22, R208) -/

/-- R22: the H records at a WATCH sample, with threshold 2. -/
def watchHandles (levels : BitVec 4) (s : State) : State :=
  { s with doors := { s.doors with
      door := updAll s.doors.door (fun d D => { D with sense := D.sense.sample 2 (levels.getLsbD d.val) }) } }

/-- R22: whether an H output turned to 1 between two states. -/
def handleRose (s0 s : State) : Bool := (indices 4).any (fun d => s.doors.door[d].sense.out && !s0.doors.door[d].sense.out)

/-- R22, R208: the WATCH sample of the handle lines. -/
def watchHandleSample (levels : BitVec 4) (s : State) : State :=
  let t := watchHandles levels s
  if handleRose s t then handleWake t else t

/-- R208: a watch counter after a sample. -/
def watchNext (on : Bool) (count : Nat) : Nat := if on then min 5 (count + 1) else 0

/-- R208: the WATCH sample of the ACC and IGN lines; a counter that reaches 5 is a key wake. -/
def watchLineSample (acc ign : Bool) (s : State) : State :=
  let a := watchNext acc s.power.watchAcc
  let i := watchNext ign s.power.watchIgn
  let t := s.modPower (fun p => { p with watchAcc := a, watchIgn := i })
  if (a = 5 ∧ s.power.watchAcc < 5) ∨ (i = 5 ∧ s.power.watchIgn < 5) then keyWake t else t

end Sys2Proof.Machine
end

