-- ==== Sys2Proof/Machine/CmdPower.lean ====
section
/-!
DEFINITION. The commands of supply, resets, ignition, parking and WATCH (chapter 10): one meaning per constructor.
-/

namespace Sys2Proof.Machine

abbrev Result := Host.Outcome State Fault Refusal

/-- POWER_ON (R209). -/
def execPowerOn (s : State) : Result := .next (powerOnReset s)

/-- RESTART_RESET (R209): a RESTART of the running part. -/
def execRestartReset (s : State) : Result := .next (if s.awake then restartReset s else s)

/-- LOSS_OF_SUPPLY (R185). -/
def execLossOfSupply (s : State) : Result := .next (unpowered s)

/-- IGNITION_LEVEL_CHANGE (R201): the last count of a line. -/
def execIgnitionLevelChange (line : IgnLine) (s : State) : Result :=
  let flip := fun (f : LineFilter) => ({ level := !f.level, count := 0 } : LineFilter)
  .next (whenAwake (fun t => match line with
    | .acc => guarded (fun u => decide (u.power.acc.count ≥ 24))
        (fun u => modeEval (u.modPower (fun p => { p with acc := flip p.acc }))) t
    | .ign => guarded (fun u => decide (u.power.ign.count ≥ 24))
        (fun u => modeEval (u.modPower (fun p => { p with ign := flip p.ign }))) t
    | .crank => guarded (fun u => decide (u.power.crank.count ≥ 24))
        (fun u => modeEval (u.modPower (fun p => { p with crank := flip p.crank }))) t) s)

/-- LINE_SETTLE_END (R201). -/
def execLineSettleEnd (s : State) : Result :=
  .next (whenAwake (guarded (fun t => t.power.lineSettle.isSome)
    (fun t => modeEval (t.modPower (fun p => { p with lineSettle := none })))) s)

/-- OFF_TIMER_EXPIRY (R203). -/
def execOffTimerExpiry (s : State) : Result :=
  .next (whenAwake (guarded (fun t => t.power.offTimer.isSome && (t.power.mode == .acc || t.power.mode == .run))
    enterParking) s)

/-- PARKING_TIMER_LIMIT (R206). -/
def execParkingTimerLimit (s : State) : Result :=
  .next (whenAwake (guarded (fun t => t.power.parkTimer.isSome)
    (fun t => modeEval (t.modPower (fun p => { p with parkTimer := some 5000 })))) s)

/-- HOLD_CLAIM_EXPIRY (R207). -/
def execHoldClaimExpiry (s : State) : Result :=
  .next (whenAwake (fun t => t.modPower (fun p => { p with claim := none })) s)

/-- WATCH_LINE_SAMPLE (R208). -/
def execWatchLineSample (acc ign : Bool) (s : State) : Result := .next (whenWatching (watchLineSample acc ign) s)

/-- KEY_WAKE (R208): the last count of a line's watch counter. -/
def execKeyWake (line : WatchLine) (s : State) : Result :=
  .next (whenWatching (fun t => match line with
    | .acc => guarded (fun u => u.power.watchAcc == 4)
        (fun u => keyWake (u.modPower (fun p => { p with watchAcc := 5 }))) t
    | .ign => guarded (fun u => u.power.watchIgn == 4)
        (fun u => keyWake (u.modPower (fun p => { p with watchIgn := 5 }))) t) s)

/-- LINK_WAKE (R208). -/
def execLinkWake (_ : LinkId) (s : State) : Result := .next (whenWatching linkWake s)

/-- WATCH_HANDLE_SAMPLE (R22). -/
def execWatchHandleSample (levels : BitVec 4) (s : State) : Result := .next (whenWatching (watchHandleSample levels) s)

/-- HANDLE_WAKE (R22): the last count of a doorway's H record in WATCH. -/
def execHandleWake (d : Fin 4) (s : State) : Result :=
  .next (whenWatching (guarded (fun t => decide (t.doors.door[d].sense.count ≥ 1) && !t.doors.door[d].sense.out)
    (fun t => handleWake (t.modDoor d (fun D => { D with sense := D.sense.sample 2 true })))) s)

end Sys2Proof.Machine
end

