-- ==== Sys2Proof/Machine/CmdSignals.lean ====
section
/-!
DEFINITION. The sample event and the events counted at it (chapters 1, 4 and 6), the chime's and the flash's events: one
meaning per constructor.
-/

namespace Sys2Proof.Machine

/-- SAMPLE_EVENT (R5). -/
def execSampleEvent (inputs : SampleInputs) (s : State) : Result := .next (whenAwake (sampleEvent inputs) s)

/-- LINE_DECLARATION (R11): the last count of a channel's qualification toward a declaration.  The row carries no readings, and
that the channel's raw reading, sense counts and filter stay as they were is the model's choice (DESIGN CHOICE, log entry
11). -/
def execLineDeclaration (ch : Fin 40) (s : State) : Result :=
  .next (whenAwake (guarded (fun t => t.oneShort ch && !t.sig.chan[ch].cond.declared) (lastQualification ch)) s)

/-- LINE_CLEARING (R12): the last count toward clearing or replacing a declared condition.  The channel's readings stay as for
LINE_DECLARATION (DESIGN CHOICE, log entry 11). -/
def execLineClearing (ch : Fin 40) (s : State) : Result :=
  .next (whenAwake (guarded (fun t => t.oneShort ch && t.sig.chan[ch].cond.declared) (lastQualification ch)) s)

/-- SIGNAL_SETTLE_EXPIRY (R18). -/
def execSignalSettleExpiry (s : State) : Result :=
  .next (whenAwake (fun t => match t.sig.hold with
    | .settle _ => changeNotices t { t with sig := t.sig.settleEnd }
    | _ => t) s)

/-- HANDLE_CHANGE (R21): the last count of a doorway's H record. -/
def execHandleChange (d : Fin 4) (s : State) : Result :=
  .next (whenAwake (guarded
    (fun t => decide (t.doors.door[d].resense ≥ 10) && t.doors.door[d].sense.oneShort && !t.energised (handleLamp d))
    (fun t => doorEvalFrom t (handleSample (!t.doors.door[d].sense.out) d t))) s)

/-- RESENSE_DONE (R89): the tenth sensed sample of a doorway's H record, at the level last sensed. -/
def execResenseDone (d : Fin 4) (s : State) : Result :=
  .next (whenAwake (guarded (fun t => t.doors.door[d].resense == 9 && !t.energised (handleLamp d))
    (fun t => doorEvalFrom t (handleSample t.doors.door[d].sense.raw d t))) s)

/-- CONTRADICTION_EXPIRY (R79). -/
def execContradictionExpiry (d : Fin 4) (s : State) : Result :=
  .next (whenAwake (guarded (fun t => t.doors.door[d].timer.isSome)
    (fun t => doorEvalFrom t (t.modDoor d (fun D => { D with timer := none, confirmed := true })))) s)

/-- OVERCURRENT_TRIP (R138): the last overcurrent sample of an energised lamp.  The row carries no sense counts, and that the
lamp's current reading stays as it was is the model's choice (DESIGN CHOICE, log entry 11). -/
def execOvercurrentTrip (l : Fin 16) (s : State) : Result :=
  .next (whenAwake (guarded (fun t => t.energised l && decide (t.out.lamp[l].ocCount + 1 ≥ t.out.lamp[l].tripAt))
    (fun t => outputEval (tripLamp l t))) s)

/-- RETRY_WAIT_EXPIRY (R138). -/
def execRetryWaitExpiry (l : Fin 16) (s : State) : Result :=
  .next (whenAwake (guarded (fun t => t.out.lamp[l].wait.isSome && t.out.lamp[l].protection == .shutdown)
    (fun t => outputEval (t.modLamp l Lamp.retryNow))) s)

/-- RETRY_PROOF (R139): the last energised sample of a retry.  The row carries no sense counts, and that the
lamp's current reading stays as it was is the model's choice (DESIGN CHOICE, log entry 11). -/
def execRetryProof (l : Fin 16) (s : State) : Result :=
  .next (whenAwake (guarded
    (fun t => t.energised l && t.out.lamp[l].protection == .retry && decide (t.out.lamp[l].proof ≥ 499))
    (fun t => outputEval (proveLamp l t))) s)

/-- OPEN_STATE_CHANGE (R141): the last energised sample that changes a lamp's open state.  The row carries no sense counts, and
that the lamp's current reading stays as it was is the model's choice (DESIGN CHOICE, log entry 11). -/
def execOpenStateChange (l : Fin 16) (s : State) : Result :=
  .next (whenAwake (guarded (fun t => t.openOneShort l) (flipOpenLamp l)) s)

/-- FLASH_HALF_TOGGLE (R132, R144): the end of a half of a flashing output. -/
def execFlashHalfToggle (o : FlashOut) (s : State) : Result :=
  let turn := fun (h : FlashHalf) => ({ driven := !h.driven, elapsed := 0 } : FlashHalf)
  .next (whenAwake (fun t => match o with
    | .lamp l => guarded (fun u => u.out.lamp[l].drive == .flash) (fun u => u.modLamp l (fun L => { L with half := turn L.half })) t
    | .chime => guarded (fun u => u.overrideOf .chime == some .flash) (fun u => u.modChime (fun c => { c with half := turn c.half })) t) s)

/-- CHIME_ONESHOT_END (R143). -/
def execChimeOneshotEnd (s : State) : Result :=
  .next (whenAwake (guarded (fun t => t.out.chime.playing.isShot)
    (fun t => chimeDecide (t.modChime (fun c => { c with playing := .none })))) s)

end Sys2Proof.Machine
end

