-- ==== Sys2Proof/Machine/CmdFrames.lean ====
section
/-!
DEFINITION. The edge sample, the gauge frame, the warning tick and the events counted at them (chapters 2, 3 and 5): one
meaning per constructor.
-/

namespace Sys2Proof.Machine

/-- EDGE_SAMPLE (R27). -/
def execEdgeSample (pu0 pu1 : Bool) (now : Word) (s : State) : Result :=
  .next (whenAwake (fun t => edgeSample .pu1 pu1 now (edgeSample .pu0 pu0 now { t with timebase := now })) s)

/-- FILTERED_EDGE (R28): the edge sample that makes a channel's filter output rise. -/
def execFilteredEdge (p : PulseId) (now : Word) (s : State) : Result :=
  .next (whenAwake (guarded
    (fun t => !(t.speed.capture p).out && decide ((t.speed.capture p).count + 1 ≥ t.edgeThreshold p))
    (fun t => edgeSample p true now { t with timebase := now })) s)

/-- ODOMETER_INCREMENT (R36): the pulse that makes the accumulator reach P / 10.  The row carries no timebase reading, and that
no edge enters the ring with it is the model's choice (DESIGN CHOICE, log entry 11). -/
def execOdometerIncrement (s : State) : Result :=
  .next (whenAwake (guarded (fun t => t.speed.pulseConst.any (fun P => decide (t.speed.accumulator + 1 ≥ P / 10))) countPulse) s)

/-- GAUGE_FRAME (R49): the Speed Unit, its deliveries to the Doorway Monitor and the Service Unit, then the gauges.  The manual
does not order the close at an estimate of 100 or more (R171) against the gauges' own steps of the same frame: that the close
comes first, so that a DOWN leg which would end at this frame is ABORTED and the gauges read no forced input any more, is the
model's choice (DESIGN CHOICE, log entry 36). -/
def execGaugeFrame (now : Word) (s : State) : Result :=
  .next (whenAwake (fun t => gaugeFrames (speedClose (speedFrame now t))) s)

/-- HOMING_END (R59): the last drive of a homing. -/
def execHomingEnd (g : Fin 6) (s : State) : Result :=
  .next (whenAwake (guarded
    (fun t => t.store.cfgState != .preloading && t.gauges.gauge[g].state == .homing && decide (t.gauges.gauge[g].homing ≤ 100))
    (fun t => t.modGauge g (Gauge.homed (decide (t.gauges.hold ≠ .none))))) s)

/-- FEED_STALE (R57): the last 20 ms of a fed gauge's feed age. -/
def execFeedStale (g : Fin 6) (s : State) : Result :=
  .next (whenAwake (guarded
    (fun t => t.store.cfgState != .preloading && t.gauges.gauge[g].active.any (fun c => c.source == .fed) &&
      t.gauges.gauge[g].state != .disabled && t.gauges.gauge[g].feedAge == 980)
    (fun t => t.modGauge g (fun G => ({ G with feedAge := 1000 } : Gauge).settleFace))) s)

/-- CRANK_HOLD_EXPIRY (R60). -/
def execCrankHoldExpiry (s : State) : Result :=
  .next (whenAwake (fun t => match t.gauges.hold with
    | .settle _ => gaugesHoldEnd t
    | _ => t) s)

/-- WARNING_TICK (R103). -/
def execWarningTick (s : State) : Result :=
  .next (whenAwake (guarded (fun t => t.store.cfgState != .preloading) warningTick) s)

/-- TRIGGER_ACTIVATION (R104): the evaluation that turns a trigger ON, with the closing steps of its tick. -/
def execTriggerActivation (w : Fin 56) (s : State) : Result :=
  .next (whenAwake (guarded (fun t => t.activates w)
    (fun t => closingSteps t (turnTrigger w { state := .on, count := 0 } t))) s)

end Sys2Proof.Machine
end

