-- ==== Sys2Proof/Machine/CmdLinks.lean ====
section
/-!
DEFINITION. The store's attempts (R184), the service silence timer (R170) and the events of the links (chapter 11): one
meaning per constructor.
-/

namespace Sys2Proof.Machine

/-- STORE_ATTEMPT_ANSWERED (R184). -/
def execStoreAttemptAnswered (s : State) : Result :=
  match s.store.inFlight with
  | none => .next s
  | some a =>
    if s.awake then
      if a.inArea then .next (finish s (answerAttempt a s)) else .fault .storeAddress
    else .next s

/-- STORE_ATTEMPT_TIMEOUT (R184). -/
def execStoreAttemptTimeout (s : State) : Result :=
  match s.store.inFlight with
  | none => .next s
  | some a =>
    if s.awake then
      if a.inArea then .next (finish s (loseAttempt a s)) else .fault .storeAddress
    else .next s

/-- SILENCE_TIMER_EXPIRY (R170). -/
def execSilenceTimerExpiry (s : State) : Result :=
  .next (whenAwake (guarded (fun t => t.svc.silence.isSome) (closeService .silence)) s)

/-- FRAME_ACCEPTED (R212): the receiver has taken the frame and is in HUNT.  A payload beyond 120 bytes is no frame (log
entry 27). -/
def execFrameAccepted (l : LinkId) (kind code tag : Byte) (payload : List Byte) (s : State) : Result :=
  .next (if payload.length > maxPayload then s else onFrame l (takeFrame l kind code tag payload) s)

/-- R212, R218: the frames that one byte completes, in order, and then the bytes left in the receiver.  A frame that wakes the
part or lets it enter WATCH empties the receiver, and the bytes received after that frame are lost with it. -/
def takeFrames (l : LinkId) (left : List Byte) : List (Byte × Byte × Byte × List Byte) → State → State
  | [], s => s.modLink l (fun r => { r with rx := left })
  | f :: fs, s =>
    let t := onFrame l (takeFrame l f.1 f.2.1 f.2.2.1 f.2.2.2) s
    if t.awake = s.awake then takeFrames l left fs t else t

/-- R212: the next byte of a link's line at its receiver. -/
def receiveByte (l : LinkId) (s : State) (b : Byte) : State :=
  let buf := (s.link l).rx ++ [b]
  let r := receive (buf.length + 1) buf
  takeFrames l r.2 r.1 s

/-- FRAME_REJECTED (R212): bytes on a line, one after another; the receiver discards what is no frame and examines again what
follows. -/
def execFrameRejected (l : LinkId) (bytes : List Byte) (s : State) : Result :=
  .next (if s.powered then bytes.foldl (receiveByte l) s else s)

/-- R214: the end of a frame's transmission; the RESTART that waits for it follows (R181, R196). -/
def frameSent (l : LinkId) (s : State) : State :=
  match (s.link l).tx with
  | none => s
  | some f => if f.restarts then restartReset s else s.modLink l (fun k => { k with tx := none })

/-- FRAME_TRANSMITTED (R214). -/
def execFrameTransmitted (l : LinkId) (s : State) : Result := .next (whenAwake (frameSent l) s)

/-- SIGNALS_PERIOD_EXPIRY (R217). -/
def execSignalsPeriodExpiry (l : LinkId) (s : State) : Result :=
  .next (whenAwake (guarded (fun t => (t.link l).period.isSome)
    (fun t => t.modLink l (fun k => ({ k with period := some 0 } : Link).raise .signals))) s)

end Sys2Proof.Machine
end

