-- ==== Sys2Proof/Machine/CmdRequests.lean ====
section
/-!
DEFINITION. The requests of the catalogue (R213), one meaning per constructor: each stands for the acceptance of the frame
that carries it (log entry 13), with the owner of its rule.
-/

namespace Sys2Proof.Machine

/-- STATUS_GET (R215). -/
def execStatusGet (l : LinkId) (tag : Byte) (s : State) : Result :=
  .next (onRequest l 0x20#8 tag (serveStatus l) s)

/-- SIGNALS_GET (R26). -/
def execSignalsGet (l : LinkId) (tag : Byte) (first count detail : Byte) (s : State) : Result :=
  .next (onRequest l 0x21#8 tag (serveSignals first count detail) s)

/-- FEED (R56). -/
def execFeed (l : LinkId) (tag : Byte) (entries : List (Byte × Half)) (s : State) : Result :=
  .next (onRequest l 0x22#8 tag (serveFeed entries) s)

/-- GAUGE_SET (R68). -/
def execGaugeSet (l : LinkId) (tag : Byte) (gauge : Byte) (record : GaugeRaw) (s : State) : Result :=
  .next (onRequest l 0x23#8 tag (serveGaugeSet gauge record) s)

/-- WARN_LIST (R127). -/
def execWarnList (l : LinkId) (tag : Byte) (part start : Byte) (s : State) : Result :=
  .next (onRequest l 0x24#8 tag (serveWarnList part start) s)

/-- WARN_ACK (R124). -/
def execWarnAck (l : LinkId) (tag : Byte) (index : Byte) (s : State) : Result :=
  .next (onRequest l 0x25#8 tag (serveWarnAck index) s)

/-- FEED_WARN (R108). -/
def execFeedWarn (l : LinkId) (tag : Byte) (entries : List (Byte × Byte)) (s : State) : Result :=
  .next (onRequest l 0x26#8 tag (serveFeedWarn entries) s)

/-- RELEASE_ACK (R86). -/
def execReleaseAck (l : LinkId) (tag : Byte) (doorway : Byte) (s : State) : Result :=
  .next (onRequest l 0x27#8 tag (serveReleaseAck doorway) s)

/-- DOORS_GET (R97). -/
def execDoorsGet (l : LinkId) (tag : Byte) (s : State) : Result :=
  .next (onRequest l 0x28#8 tag serveDoors s)

/-- LAMP_SET (R135). -/
def execLampSet (l : LinkId) (tag : Byte) (entries : List (Byte × Byte)) (s : State) : Result :=
  .next (onRequest l 0x29#8 tag (serveLampSet entries) s)

/-- LAMP_RESET (R140). -/
def execLampReset (l : LinkId) (tag : Byte) (mask : Half) (s : State) : Result :=
  .next (onRequest l 0x2A#8 tag (serveLampReset mask) s)

/-- TRIP_CLEAR (R42). -/
def execTripClear (l : LinkId) (tag : Byte) (trip : Byte) (s : State) : Result :=
  .next (onRequest l 0x2B#8 tag (serveTripClear trip) s)

/-- ODO_GET (R43). -/
def execOdoGet (l : LinkId) (tag : Byte) (s : State) : Result :=
  .next (onRequest l 0x2C#8 tag serveOdo s)

/-- REPORT_SET (R217). -/
def execReportSet (l : LinkId) (tag : Byte) (mask : Byte) (interval : Half) (first count : Byte) (s : State) : Result :=
  .next (onRequest l 0x2D#8 tag (serveReportSet l mask interval first count) s)

/-- POWER_HOLD (R207). -/
def execPowerHold (l : LinkId) (tag : Byte) (s : State) : Result :=
  .next (onRequest l 0x2E#8 tag servePowerHold s)

/-- POWER_FREE (R207). -/
def execPowerFree (l : LinkId) (tag : Byte) (s : State) : Result :=
  .next (onRequest l 0x2F#8 tag servePowerFree s)

/-- STORE_READ (R189). -/
def execStoreRead (l : LinkId) (tag : Byte) (area : Byte) (offset : Half) (count : Byte) (s : State) : Result :=
  .next (onRequest l 0x30#8 tag (serveStoreRead l area offset count) s)

/-- STORE_WRITE (R190). -/
def execStoreWrite (l : LinkId) (tag : Byte) (area : Byte) (offset : Half) (bytes : List Byte) (s : State) : Result :=
  .next (onRequest l 0x31#8 tag (serveStoreWrite l area offset bytes) s)

/-- CONFIG_PUT (R194). -/
def execConfigPut (l : LinkId) (tag : Byte) (offset : Half) (bytes : List Byte) (s : State) : Result :=
  .next (onRequest l 0x32#8 tag (serveConfigPut l offset bytes) s)

/-- CONFIG_RELEASE (R195). -/
def execConfigRelease (l : LinkId) (tag : Byte) (s : State) : Result :=
  .next (onRequest l 0x33#8 tag (serveConfigRelease l) s)

/-- SERVICE_OPEN (R168). -/
def execServiceOpen (l : LinkId) (tag : Byte) (s : State) : Result :=
  .next (onRequest l 0x40#8 tag serveOpen s)

/-- SERVICE_CLOSE (R172). -/
def execServiceClose (l : LinkId) (tag : Byte) (s : State) : Result :=
  .next (onRequest l 0x41#8 tag serveClose s)

/-- FORCE (R175). -/
def execForce (l : LinkId) (tag : Byte) (channel : Byte) (value : Half) (s : State) : Result :=
  .next (onRequest l 0x42#8 tag (serveForce channel value) s)

/-- UNFORCE (R176). -/
def execUnforce (l : LinkId) (tag : Byte) (channel : Byte) (s : State) : Result :=
  .next (onRequest l 0x43#8 tag (serveUnforce channel) s)

/-- OUTPUT_TEST (R177). -/
def execOutputTest (l : LinkId) (tag : Byte) (output setting : Byte) (s : State) : Result :=
  .next (onRequest l 0x44#8 tag (serveOutputTest output setting) s)

/-- OUTPUT_FREE (R178). -/
def execOutputFree (l : LinkId) (tag : Byte) (output : Byte) (s : State) : Result :=
  .next (onRequest l 0x45#8 tag (serveOutputFree output) s)

/-- SWEEP (R179). -/
def execSweep (l : LinkId) (tag : Byte) (mask : Byte) (s : State) : Result :=
  .next (onRequest l 0x46#8 tag (serveSweep mask) s)

/-- RESTART (R181). -/
def execRestart (l : LinkId) (tag : Byte) (s : State) : Result :=
  .next (onRequest l 0x4B#8 tag serveRestart s)

/-- FAULT_READ (R161). -/
def execFaultRead (l : LinkId) (tag : Byte) (start filter : Byte) (s : State) : Result :=
  .next (onRequest l 0x47#8 tag (serveFaultRead start filter) s)

/-- FAULT_CLEAR (R162). -/
def execFaultClear (l : LinkId) (tag : Byte) (s : State) : Result :=
  .next (onRequest l 0x48#8 tag serveFaultClear s)

/-- ODO_SET (R44). -/
def execOdoSet (l : LinkId) (tag : Byte) (value : Word) (s : State) : Result :=
  .next (onRequest l 0x49#8 tag (serveOdoSet value) s)

/-- CLASS_MAP_SET (R122). -/
def execClassMapSet (l : LinkId) (tag : Byte) (classes : Vector Byte 8) (s : State) : Result :=
  .next (onRequest l 0x4A#8 tag (serveClassMap classes) s)

end Sys2Proof.Machine
end

