-- ==== Sys2Proof/Machine/Dispatch.lean ====
section
/-! DEFINITION. The meaning of every command: one arm per constructor of `Instr`. -/

namespace Sys2Proof.Machine

def exec (i : Instr) (s : State) : Host.Outcome State Fault Refusal :=
  match i with
  | .powerOn => Sys2Proof.Machine.execPowerOn s
  | .restartReset => Sys2Proof.Machine.execRestartReset s
  | .sampleEvent inputs => Sys2Proof.Machine.execSampleEvent inputs s
  | .lineDeclaration ch => Sys2Proof.Machine.execLineDeclaration ch s
  | .lineClearing ch => Sys2Proof.Machine.execLineClearing ch s
  | .signalSettleExpiry => Sys2Proof.Machine.execSignalSettleExpiry s
  | .handleChange d => Sys2Proof.Machine.execHandleChange d s
  | .watchHandleSample levels => Sys2Proof.Machine.execWatchHandleSample levels s
  | .handleWake d => Sys2Proof.Machine.execHandleWake d s
  | .edgeSample pu0 pu1 now => Sys2Proof.Machine.execEdgeSample pu0 pu1 now s
  | .filteredEdge p now => Sys2Proof.Machine.execFilteredEdge p now s
  | .odometerIncrement => Sys2Proof.Machine.execOdometerIncrement s
  | .gaugeFrame now => Sys2Proof.Machine.execGaugeFrame now s
  | .homingEnd g => Sys2Proof.Machine.execHomingEnd g s
  | .feedStale g => Sys2Proof.Machine.execFeedStale g s
  | .crankHoldExpiry => Sys2Proof.Machine.execCrankHoldExpiry s
  | .contradictionExpiry d => Sys2Proof.Machine.execContradictionExpiry d s
  | .resenseDone d => Sys2Proof.Machine.execResenseDone d s
  | .warningTick => Sys2Proof.Machine.execWarningTick s
  | .triggerActivation w => Sys2Proof.Machine.execTriggerActivation w s
  | .flashHalfToggle o => Sys2Proof.Machine.execFlashHalfToggle o s
  | .overcurrentTrip l => Sys2Proof.Machine.execOvercurrentTrip l s
  | .retryWaitExpiry l => Sys2Proof.Machine.execRetryWaitExpiry l s
  | .retryProof l => Sys2Proof.Machine.execRetryProof l s
  | .openStateChange l => Sys2Proof.Machine.execOpenStateChange l s
  | .chimeOneshotEnd => Sys2Proof.Machine.execChimeOneshotEnd s
  | .storeAttemptAnswered => Sys2Proof.Machine.execStoreAttemptAnswered s
  | .storeAttemptTimeout => Sys2Proof.Machine.execStoreAttemptTimeout s
  | .ignitionLevelChange line => Sys2Proof.Machine.execIgnitionLevelChange line s
  | .lineSettleEnd => Sys2Proof.Machine.execLineSettleEnd s
  | .offTimerExpiry => Sys2Proof.Machine.execOffTimerExpiry s
  | .parkingTimerLimit => Sys2Proof.Machine.execParkingTimerLimit s
  | .holdClaimExpiry => Sys2Proof.Machine.execHoldClaimExpiry s
  | .watchLineSample acc ign => Sys2Proof.Machine.execWatchLineSample acc ign s
  | .keyWake line => Sys2Proof.Machine.execKeyWake line s
  | .linkWake link => Sys2Proof.Machine.execLinkWake link s
  | .silenceTimerExpiry => Sys2Proof.Machine.execSilenceTimerExpiry s
  | .frameAccepted link kind code tag payload => Sys2Proof.Machine.execFrameAccepted link kind code tag payload s
  | .frameRejected link bytes => Sys2Proof.Machine.execFrameRejected link bytes s
  | .frameTransmitted link => Sys2Proof.Machine.execFrameTransmitted link s
  | .signalsPeriodExpiry link => Sys2Proof.Machine.execSignalsPeriodExpiry link s
  | .statusGet link tag => Sys2Proof.Machine.execStatusGet link tag s
  | .signalsGet link tag first count detail => Sys2Proof.Machine.execSignalsGet link tag first count detail s
  | .feed link tag entries => Sys2Proof.Machine.execFeed link tag entries s
  | .gaugeSet link tag gauge record => Sys2Proof.Machine.execGaugeSet link tag gauge record s
  | .warnList link tag part start => Sys2Proof.Machine.execWarnList link tag part start s
  | .warnAck link tag index => Sys2Proof.Machine.execWarnAck link tag index s
  | .feedWarn link tag entries => Sys2Proof.Machine.execFeedWarn link tag entries s
  | .releaseAck link tag doorway => Sys2Proof.Machine.execReleaseAck link tag doorway s
  | .doorsGet link tag => Sys2Proof.Machine.execDoorsGet link tag s
  | .lampSet link tag entries => Sys2Proof.Machine.execLampSet link tag entries s
  | .lampReset link tag mask => Sys2Proof.Machine.execLampReset link tag mask s
  | .tripClear link tag trip => Sys2Proof.Machine.execTripClear link tag trip s
  | .odoGet link tag => Sys2Proof.Machine.execOdoGet link tag s
  | .reportSet link tag mask interval first count => Sys2Proof.Machine.execReportSet link tag mask interval first count s
  | .powerHold link tag => Sys2Proof.Machine.execPowerHold link tag s
  | .powerFree link tag => Sys2Proof.Machine.execPowerFree link tag s
  | .storeRead link tag area offset count => Sys2Proof.Machine.execStoreRead link tag area offset count s
  | .storeWrite link tag area offset bytes => Sys2Proof.Machine.execStoreWrite link tag area offset bytes s
  | .configPut link tag offset bytes => Sys2Proof.Machine.execConfigPut link tag offset bytes s
  | .configRelease link tag => Sys2Proof.Machine.execConfigRelease link tag s
  | .serviceOpen link tag => Sys2Proof.Machine.execServiceOpen link tag s
  | .serviceClose link tag => Sys2Proof.Machine.execServiceClose link tag s
  | .force link tag channel value => Sys2Proof.Machine.execForce link tag channel value s
  | .unforce link tag channel => Sys2Proof.Machine.execUnforce link tag channel s
  | .outputTest link tag output setting => Sys2Proof.Machine.execOutputTest link tag output setting s
  | .outputFree link tag output => Sys2Proof.Machine.execOutputFree link tag output s
  | .sweep link tag mask => Sys2Proof.Machine.execSweep link tag mask s
  | .restart link tag => Sys2Proof.Machine.execRestart link tag s
  | .faultRead link tag start filter => Sys2Proof.Machine.execFaultRead link tag start filter s
  | .faultClear link tag => Sys2Proof.Machine.execFaultClear link tag s
  | .odoSet link tag value => Sys2Proof.Machine.execOdoSet link tag value s
  | .classMapSet link tag classes => Sys2Proof.Machine.execClassMapSet link tag classes s
  | .lossOfSupply => Sys2Proof.Machine.execLossOfSupply s

end Sys2Proof.Machine
end

