-- ==== Sys2Proof/Safety.lean ====
section
/-!
DEFINITION. The terms that the statements of Certificates/Slice0/Obligations.lean use: what the manual promises of every
state, as conditions on a state; what a link has still to send; when a request reaches its owner; and when the power mode
has nothing to change.
-/

namespace Sys2Proof

/-! ### Kinds of commands -/

/-- Where a command comes from, and so when it acts: the supply, the running part's own clock and pins, the wake sources of
WATCH, a link's line, or a request on a link. -/
inductive CommandKind where
  | supply
  | running
  | watching
  | line
  | request (l : LinkId)
  deriving DecidableEq, Repr

/-- The kind of each command. -/
def Instr.kind : Instr → CommandKind
  | .powerOn => .supply
  | .restartReset => .running
  | .sampleEvent _ => .running
  | .lineDeclaration _ => .running
  | .lineClearing _ => .running
  | .signalSettleExpiry => .running
  | .handleChange _ => .running
  | .watchHandleSample _ => .watching
  | .handleWake _ => .watching
  | .edgeSample _ _ _ => .running
  | .filteredEdge _ _ => .running
  | .odometerIncrement => .running
  | .gaugeFrame _ => .running
  | .homingEnd _ => .running
  | .feedStale _ => .running
  | .crankHoldExpiry => .running
  | .contradictionExpiry _ => .running
  | .resenseDone _ => .running
  | .warningTick => .running
  | .triggerActivation _ => .running
  | .flashHalfToggle _ => .running
  | .overcurrentTrip _ => .running
  | .retryWaitExpiry _ => .running
  | .retryProof _ => .running
  | .openStateChange _ => .running
  | .chimeOneshotEnd => .running
  | .storeAttemptAnswered => .running
  | .storeAttemptTimeout => .running
  | .ignitionLevelChange _ => .running
  | .lineSettleEnd => .running
  | .offTimerExpiry => .running
  | .parkingTimerLimit => .running
  | .holdClaimExpiry => .running
  | .watchLineSample _ _ => .watching
  | .keyWake _ => .watching
  | .linkWake _ => .watching
  | .silenceTimerExpiry => .running
  | .frameAccepted _ _ _ _ _ => .line
  | .frameRejected _ _ => .line
  | .frameTransmitted _ => .running
  | .signalsPeriodExpiry _ => .running
  | .statusGet l _ => .request l
  | .signalsGet l _ _ _ _ => .request l
  | .feed l _ _ => .request l
  | .gaugeSet l _ _ _ => .request l
  | .warnList l _ _ _ => .request l
  | .warnAck l _ _ => .request l
  | .feedWarn l _ _ => .request l
  | .releaseAck l _ _ => .request l
  | .doorsGet l _ => .request l
  | .lampSet l _ _ => .request l
  | .lampReset l _ _ => .request l
  | .tripClear l _ _ => .request l
  | .odoGet l _ => .request l
  | .reportSet l _ _ _ _ _ => .request l
  | .powerHold l _ => .request l
  | .powerFree l _ => .request l
  | .storeRead l _ _ _ _ => .request l
  | .storeWrite l _ _ _ _ => .request l
  | .configPut l _ _ _ => .request l
  | .configRelease l _ => .request l
  | .serviceOpen l _ => .request l
  | .serviceClose l _ => .request l
  | .force l _ _ _ => .request l
  | .unforce l _ _ => .request l
  | .outputTest l _ _ _ => .request l
  | .outputFree l _ _ => .request l
  | .sweep l _ _ => .request l
  | .restart l _ => .request l
  | .faultRead l _ _ _ => .request l
  | .faultClear l _ => .request l
  | .odoSet l _ _ => .request l
  | .classMapSet l _ _ => .request l
  | .lossOfSupply => .supply

/-! ### Requests as frames (R213, R219) -/

/-- A 2-byte quantity as its bytes, most significant first. -/
def Half.bytes (h : Half) : List Byte := [h.extractLsb' 8 8, h.extractLsb' 0 8]

/-- A 4-byte quantity as its bytes, most significant first. -/
def Word.bytes (w : Word) : List Byte :=
  [w.extractLsb' 24 8, w.extractLsb' 16 8, w.extractLsb' 8 8, w.extractLsb' 0 8]

/-- A list preceded by its count byte. -/
def countedList {α : Type} (f : α → List Byte) (es : List α) : List Byte := BitVec.ofNat 8 es.length :: es.flatMap f

/-- The 56 bytes of a gauge record (R219, section 3): 20 bytes of items, eight breakpoints, 4 bytes of 0. -/
def GaugeRaw.bytes (r : GaugeRaw) : List Byte :=
  [r.source, r.enabled] ++ Half.bytes r.offset ++ Half.bytes r.gain ++ Half.bytes r.loLimit ++ Half.bytes r.hiLimit ++
  Half.bytes r.loSet ++ Half.bytes r.hiSet ++ Half.bytes r.sweep ++ [r.damping, r.slew, r.divider, r.count] ++
  r.breaks.toList.flatMap (fun b => Half.bytes b.face ++ Half.bytes b.angle) ++ List.replicate 4 0#8

/-- The code, the tag and the payload of the frame that carries a request (R213, R219); none for any other command. -/
def Instr.requestFrame (c : Instr) : Option (Byte × Byte × List Byte) :=
  match c with
  | .statusGet _ tag => some (0x20#8, tag, [])
  | .signalsGet _ tag first count detail => some (0x21#8, tag, [first, count, detail])
  | .feed _ tag es => some (0x22#8, tag, countedList (fun e => e.1 :: Half.bytes e.2) es)
  | .gaugeSet _ tag gauge record => some (0x23#8, tag, gauge :: record.bytes)
  | .warnList _ tag part start => some (0x24#8, tag, [part, start])
  | .warnAck _ tag index => some (0x25#8, tag, [index])
  | .feedWarn _ tag es => some (0x26#8, tag, countedList (fun e => [e.1, e.2]) es)
  | .releaseAck _ tag doorway => some (0x27#8, tag, [doorway])
  | .doorsGet _ tag => some (0x28#8, tag, [])
  | .lampSet _ tag es => some (0x29#8, tag, countedList (fun e => [e.1, e.2]) es)
  | .lampReset _ tag mask => some (0x2A#8, tag, Half.bytes mask)
  | .tripClear _ tag trip => some (0x2B#8, tag, [trip])
  | .odoGet _ tag => some (0x2C#8, tag, [])
  | .reportSet _ tag mask interval first count => some (0x2D#8, tag, [mask] ++ Half.bytes interval ++ [first, count])
  | .powerHold _ tag => some (0x2E#8, tag, [])
  | .powerFree _ tag => some (0x2F#8, tag, [])
  | .storeRead _ tag area offset count => some (0x30#8, tag, [area] ++ Half.bytes offset ++ [count])
  | .storeWrite _ tag area offset bs => some (0x31#8, tag, [area] ++ Half.bytes offset ++ countedList (fun b => [b]) bs)
  | .configPut _ tag offset bs => some (0x32#8, tag, Half.bytes offset ++ countedList (fun b => [b]) bs)
  | .configRelease _ tag => some (0x33#8, tag, [])
  | .serviceOpen _ tag => some (0x40#8, tag, [])
  | .serviceClose _ tag => some (0x41#8, tag, [])
  | .force _ tag channel value => some (0x42#8, tag, [channel] ++ Half.bytes value)
  | .unforce _ tag channel => some (0x43#8, tag, [channel])
  | .outputTest _ tag output setting => some (0x44#8, tag, [output, setting])
  | .outputFree _ tag output => some (0x45#8, tag, [output])
  | .sweep _ tag mask => some (0x46#8, tag, [mask])
  | .restart _ tag => some (0x4B#8, tag, [])
  | .faultRead _ tag start filter => some (0x47#8, tag, [start, filter])
  | .faultClear _ tag => some (0x48#8, tag, [])
  | .odoSet _ tag value => some (0x49#8, tag, Word.bytes value)
  | .classMapSet _ tag classes => some (0x4A#8, tag, classes.toList)
  | _ => none

end Sys2Proof

namespace Sys2Proof.Machine

/-! ### Conditions on a state, each an invariant of the step -/

/-- Memories in canonical form: equal contents are equal data. -/
def MemoryOk (s : State) : Prop := Mem.wf erased s.eeprom = true ∧ Mem.wf 0#8 s.store.staging = true

/-- R165: "Force and override records exist only while service mode is OPEN, at most 8 of each, one per channel or
output."  The silence timer runs only while the mode is OPEN (R170). -/
def ServiceOk (s : State) : Prop :=
  s.svc.forces.length ≤ serviceCapacity ∧ s.svc.overrides.length ≤ serviceCapacity ∧
  (s.svc.forces.map (fun f => f.1)).Nodup ∧ (s.svc.overrides.map (fun o => o.1)).Nodup ∧
  (s.svc.isOpen = false → s.svc.forces = [] ∧ s.svc.overrides = [] ∧ s.svc.silence = none)

/-- Whether a handed access of a link stays within its area (R183, R189, R190). -/
def Purpose.inArea : Purpose → Bool
  | .linkRead _ area offset count => decide (offset + count ≤ area.size)
  | .linkWrite _ area offset bytes _ => decide (offset + bytes.length ≤ area.size)
  | _ => true

/-- R183: the access in flight and the accesses handed name no byte outside their areas. -/
def AccessOk (s : State) : Prop :=
  s.store.inFlight.all Access.inArea = true ∧ s.store.waiting.preload.all Purpose.inArea = true ∧
  s.store.waiting.parkFlush.all Purpose.inArea = true ∧ s.store.waiting.record.all Purpose.inArea = true ∧
  s.store.waiting.service.all Purpose.inArea = true ∧ s.store.waiting.display.all Purpose.inArea = true

/-- R114: the active list in class rank and, within a class, in the order of the listing numbers, the classes within
their quotas, and the listing numbers all different and below the next one. -/
def ActiveListOk (m : WarningManager) : Prop :=
  m.active.Pairwise (fun a b => a.cls.rank < b.cls.rank ∨ (a.cls = b.cls ∧ a.number < b.number)) ∧
  (m.active.map (fun e => e.number)).Nodup ∧ (∀ e ∈ m.active, e.number < m.nextNumber) ∧
  countClass .check m.active ≤ 10 ∧ countClass .info m.active ≤ 8 ∧ countClass .silent m.active ≤ 6

/-- A command that completes: no fault and no refusal. -/
def Completes (o : Host.Outcome State Fault Refusal) : Prop := ∃ s, o = .next s

/-! ### Links -/

/-- The frames that a link has still to send, oldest first: the one in transmission and the queued replies. -/
def State.outgoing (s : State) (l : LinkId) : List Frame := (s.link l).tx.toList ++ (s.link l).replies

/-- What a link is set to, besides its traffic: the enabled topics, the SIGNALS window and timer. -/
def Link.settings (r : Link) : Vector Bool 8 × Option SignalsWindow × Option Nat := (r.enabled, r.window, r.period)

/-- The part without its links: two states equal in it differ in the links alone. -/
def State.offLinks (s : State) : State := { s with links := Links.init }

/-- A link's record less its topic flags and its sequence number. -/
def Link.traffic (r : Link) : List Byte × Option (Byte × Byte) × List Frame × Option Frame × Vector Bool 8 ×
    Option SignalsWindow × Option Nat :=
  (r.rx, r.inFlight, r.replies, r.tx, r.enabled, r.window, r.period)

/-- The part without its links and without what filing a fault notice or handing a store access can change: the fault
memory, the store's access in flight and its queue, and the odometer's writer marks. -/
def State.offFiling (s : State) : State :=
  { s with
    links := Links.init, fault := FaultMemory.init
    speed := { s.speed with scheduled := .none, parking := .none, parkingAgain := false }
    store := { s.store with inFlight := none, waiting := PendingAccesses.init } }

/-- An event places no reply: each link keeps its settings, its receiver and its request in flight, and what it has to send,
if it has anything. -/
def SameTraffic (s t : State) : Prop :=
  ∀ k, (t.link k).settings = (s.link k).settings ∧ (t.link k).rx = (s.link k).rx ∧ (t.link k).inFlight = (s.link k).inFlight ∧
    (s.outgoing k ≠ [] → t.outgoing k = s.outgoing k)

/-- A link's receiver has taken an accepted frame and is in HUNT (R212), and the other link's is as it was. -/
def Accepted (l : LinkId) (s t : State) : Prop :=
  (t.link l).rx = [] ∧ ∀ k, k ≠ l → (t.link k).rx = (s.link k).rx

/-- A reply placed at the end of what its link has to send, with every link's settings kept. -/
def Placed (l : LinkId) (f : Frame) (s t : State) : Prop :=
  t.outgoing l = s.outgoing l ++ [f] ∧ ∀ k, (t.link k).settings = (s.link k).settings

/-- R213: the held reply of the link's request in flight is placed, no receiver moves, and the request is no longer in
flight. -/
def AnswersHeld (l : LinkId) (f : Frame) (s t : State) : Prop :=
  Placed l f s t ∧ (t.link l).inFlight = none ∧ ∀ k, (t.link k).rx = (s.link k).rx

/-- R213: a request on the link is answered by its owner or by tests 3 to 6: the part runs, the preload is over, no
request of the link is in flight and a reply place is free. -/
def Admits (l : LinkId) (s : State) : Prop :=
  s.awake = true ∧ s.store.cfgState ≠ .preloading ∧ (s.link l).inFlight = none ∧ (s.link l).replies.length < replyPlaces

/-- The state as the owner of an accepted request finds it: the link's receiver is in HUNT (R212), and an accepted frame on
the Service Link has returned the silence timer to 0 (R170). -/
def State.heard (s : State) (l : LinkId) : State := resetSilence l (s.hunting l)

/-- R213, R214: the request is answered at once by a reply of the given status and fields, and the part is left as `u`
apart from its links. -/
def RepliesWith (c : Instr) (l : LinkId) (code tag : Byte) (st : Status) (fields : List Byte) (s u : State) : Prop :=
  ∃ t, exec c s = .next t ∧ Placed l (replyFrame code tag st fields false) s t ∧ Accepted l s t ∧ t.offLinks = u.offLinks

/-- R213: the request's reply is held for a store access, and the part is left as `u` apart from its links. -/
def Holds (c : Instr) (l : LinkId) (code tag : Byte) (s u : State) : Prop :=
  ∃ t, exec c s = .next t ∧ (t.link l).inFlight = some (code, tag) ∧ Accepted l s t ∧ t.offLinks = u.offLinks

/-- R170, R212: the accepted frame gets no answer: its link's receiver is in HUNT, and the rest of the part is as the frame's
owner would find it. -/
def Discards (c : Instr) (l : LinkId) (s : State) : Prop :=
  ∃ t, exec c s = .next t ∧ SameTraffic (s.hunting l) t ∧ t.offLinks = (s.heard l).offLinks

/-- The event completes, places no reply, and leaves the part as `u` apart from the links' traffic. -/
def Does (c : Instr) (s u : State) : Prop := ∃ t, exec c s = .next t ∧ SameTraffic s t ∧ t.offLinks = u.offLinks

/-- A request that its owner answers at once, after which the part, apart from its links, is some state of which `P` holds. -/
def Leaves (c : Instr) (l : LinkId) (code tag : Byte) (st : Status) (fields : State → List Byte) (s : State)
    (P : State → Prop) : Prop :=
  ∃ u, RepliesWith c l code tag st (fields u) s u ∧ P u

/-- The outputs and the doorway evaluation are up to date: an evaluation changes nothing (R76, R132). -/
def Current (s : State) : Prop := s.evalDoors = s.doors ∧ outputEval s = s

/-! ### Pointers and warning entries -/

/-- R60: a gauge at a crank start: a moving target is frozen. -/
def Gauge.frozenAtCrank (G : Gauge) : Gauge := if G.state = .tracking ∨ G.state = .sweep then { G with state := .held } else G

/-- R62: a gauge at a key return in READY: a parking ends where the pointer stands, and a pending one is dropped. -/
def Gauge.afterKeyReturn (held : Bool) (G : Gauge) : Gauge :=
  if (G.state = .parking ∨ G.state = .parked) ∧ G.known = true then
    { G with state := if held then .held else .tracking, target := G.position, divider := 0 }
  else if G.state = .homing then { G with parkPending := false } else G

/-- R125: an entry less the one field that presenting it can change. -/
def WarnEntry.besideChime (presented : Option (Fin 56)) (e : WarnEntry) : WarnEntry :=
  if presented = some e.defn then { e with chimed := false } else e

/-- R125: a manager's list, queue and listing number are another's, but for the chimed field of the entry it presents. -/
def SameEntries (m n : WarningManager) : Prop :=
  m.active.map (WarnEntry.besideChime m.presented) = n.active.map (WarnEntry.besideChime m.presented) ∧
  m.queue.map (WarnEntry.besideChime m.presented) = n.queue.map (WarnEntry.besideChime m.presented) ∧
  m.nextNumber = n.nextNumber

/-- R119: an entry whose condition is gone is kept where its definition is latched and the entry is unacknowledged. -/
def WarningManager.keeps (w : Fin 56) (m : WarningManager) : Prop :=
  m.defs[w].latched = true ∧ ∃ e ∈ m.active ++ m.queue, e.defn = w ∧ e.acked = false

/-! ### Runs of samples -/

/-- R7: samples in turn at an integral filter of a threshold: its count and output. -/
def filterRun (threshold : Nat) (samples : List Bool) (f : Nat × Bool) : Nat × Bool :=
  samples.foldl (fun g b => filterStep threshold b g.1 g.2) f

/-- R11, R12: sample classes in turn at a monitored channel, its filter output standing. -/
def qualifyRun (g : ChanCfg) (classes : List SampleClass) (c : Channel) : Channel :=
  classes.foldl (fun d cls => d.qualify g cls) c

/-- R9, R28: the period that a filtered edge ends; the first edge after a reset ends none. -/
def EdgeCapture.periodAt (now : Word) (e : EdgeCapture) : Nat :=
  match e.last with
  | some t => (now - t).toNat
  | none => 0

/-! ### Store -/

/-- The store address of an access's step under way. -/
def Access.start (a : Access) : Nat := a.area.base + a.offset + a.done

/-- R184: a step that ends: every byte of a write's step holds its new value, and no other byte of the store changes. -/
def StepStored (a : Access) (m n : Mem) : Prop :=
  ∀ x, storeByte n x =
    if a.isWrite = true ∧ a.start ≤ x ∧ x < a.start + a.stepBytes.length then a.stepBytes.getD (x - a.start) 0#8 else storeByte m x

/-! ### Power modes -/

/-- R203, R206: the lines, the supply and the claim as they stand call for no change of mode and of no timer. -/
def ModeSettled (s : State) : Prop :=
  match s.power.mode with
  | .starting => s.store.cfgState = .preloading ∨ s.power.lineSettle.isSome = true
  | .acc =>
    s.power.ign.level = false ∧
      (if s.power.acc.level then s.power.offTimer = none else s.power.offTimer.isSome = true)
  | .run =>
    s.crankCondition = false ∧
      (if s.power.ign.level then s.power.offTimer = none
       else s.power.acc.level = false ∧ s.power.offTimer.isSome = true)
  | .crank =>
    s.power.ign.level = true ∧
      (s.power.crank.level = true ∨ (s.power.supplyClass ≠ .normal ∧ s.power.supplyClass ≠ .high))
  | .parking => s.power.ign.level = false ∧ s.power.acc.level = false ∧ s.power.claim.isSome = true
  | .watch => False

/-- A filtered ignition line (R201). -/
def PowerController.line (p : PowerController) : IgnLine → LineFilter
  | .acc => p.acc
  | .ign => p.ign
  | .crank => p.crank

/-- R206, R208: the part has entered WATCH: its outputs are off, its links and warnings empty, the store's pending
accesses dropped, and each pointer's position kept only where it rests at 0 (R63). -/
def EntersWatch (s t : State) : Prop :=
  t.power.mode = .watch ∧ t.power.holdDemand = false ∧ t.power.watchAcc = 0 ∧ t.power.watchIgn = 0 ∧
  t.out = OutputUnit.init ∧ t.links = Links.init ∧ t.warn = WarningManager.init ∧
  t.store.waiting = PendingAccesses.init ∧ t.doors.dbDemand = false ∧ t.doors.diDemand = false ∧
  (∀ d : Fin 4, t.doors.door[d].phase = s.doors.door[d].phase ∧ t.doors.door[d].sense.out = false) ∧
  (∀ g : Fin 6, t.gauges.gauge[g].known = (s.gauges.gauge[g].known && s.gauges.gauge[g].position == 0) ∧
    t.gauges.gauge[g].position = 0) ∧
  t.eeprom = s.eeprom ∧ t.fault.record = s.fault.record ∧ t.speed.working = s.speed.working

/-- R186: the store is idle and no requester but a link's has work for it. -/
def StoreIdle (s : State) : Prop :=
  s.store.inFlight = none ∧ s.store.waiting = PendingAccesses.init ∧ s.fault.items = [] ∧
  s.speed.parking.over = true ∧ s.fault.part.over = true

/-- R72: a gauge after a WAKE or a RESTART. -/
def Gauge.reinit (kind : ResetKind) (G : Gauge) : Gauge :=
  if kind = .restart then
    { Gauge.init with
      state := if G.known then .tracking else .unhomed, known := G.known, position := G.position, target := G.target }
  else { Gauge.init with state := if G.known then .parked else .unhomed, known := G.known }

/-- R147, R83: the chime after a reset: silent, but for the REPEAT_FAST that a kept release demands. -/
def Chime.reinit (flashes : Bool) : Chime :=
  { Chime.init with doorStanding := flashes, playing := if flashes then .standing .repeatFast 0 else .none }

/-- R160: what a WAKE or a RESTART keeps of the Fault Memory: the records, PASSIVE now, their dirty marks and the header's, with
a mark for every record that was ACTIVE, and the rest of the mirror; no item is held, and the writer and the flush have
nothing to do. -/
def KeepsFaults (s t : State) : Prop :=
  (∀ p : Fin 32, t.fault.record[p] = s.fault.record[p].map (fun r => { r with active := false }) ∧
    (s.fault.dirty[p] = true ∨ s.fault.record[p].any (fun r => r.active) = true → t.fault.dirty[p] = true)) ∧
  (s.fault.headerDirty = true → t.fault.headerDirty = true) ∧
  (StoreIdle s → t.fault.headerDirty = s.fault.headerDirty ∧
    ∀ p : Fin 32, t.fault.dirty[p] = (s.fault.dirty[p] || s.fault.record[p].any (fun r => r.active))) ∧
  t.fault = { FaultMemory.init with
    record := t.fault.record, dirty := t.fault.dirty, headerDirty := t.fault.headerDirty, overflow := s.fault.overflow
    loading := false, loaded := s.fault.loaded, lastChange := s.fault.lastChange }

/-- R185: a reset with no write in flight leaves the store's content as it is, and draws no free value. -/
def KeepsStore (s t : State) : Prop :=
  (∀ a, s.store.inFlight = some a → a.isWrite = false) → t.eeprom = s.eeprom ∧ t.freeCount = s.freeCount

/-- R209 with R25, R45, R72, R99, R129, R147, R160, R166, R199, R218: what a WAKE or a RESTART leaves while the preload
reads the store: every block at its values after a reset, but for what its chapter keeps. -/
def Reinit (kind : ResetKind) (cause : WakeCause) (s t : State) : Prop :=
  t = { State.poweredOn t.eeprom with
        timebase := s.timebase, freeCount := t.freeCount, pending := s.pending
        speed := { SpeedUnit.init with
          accumulator := s.speed.accumulator, working := s.speed.working, stored := s.speed.stored
          nextSlot := s.speed.nextSlot, loaded := s.speed.loaded }
        gauges := { gauge := t.gauges.gauge, hold := .none }
        doors := { DoorwayMonitor.init with door := t.doors.door }, fault := t.fault
        out := { OutputUnit.init with lamp := t.out.lamp, chime := t.out.chime, diOut := true, holdOut := true }
        store := { StoreController.init with inFlight := some (newAccess .preConfig false .config 0 4096 []) }
        power := PowerController.init kind cause } ∧
  (∀ g : Fin 6, t.gauges.gauge[g] = s.gauges.gauge[g].reinit kind) ∧
  (∀ d : Fin 4, t.doors.door[d] = Doorway.init s.doors.door[d].phase) ∧ (∀ l : Fin 16, l.val < 12 → t.out.lamp[l] = Lamp.init) ∧
  (∀ d : Fin 4, t.out.lamp[handleLamp d] =
    { Lamp.init with drive := if s.doors.door[d].phase.flashes then .flash else .off }) ∧
  (∀ b : Bool, (b = true ↔ ∃ d : Fin 4, s.doors.door[d].phase.flashes = true) → t.out.chime = Chime.reinit b) ∧
  KeepsFaults s t ∧ KeepsStore s t

/-- R192, R197, R209: what a WAKE or a RESTART leaves where the configuration source is UNSAVED: the staging image and the
source are kept, and the preload is over at once: every block is at its values after a reset, but for what its chapter keeps,
and has taken the image's configuration, or its built-in one where the image fails. -/
def ReinitUnsaved (kind : ResetKind) (cause : WakeCause) (s t : State) : Prop :=
  ∀ (img : Nat → Byte) (c : BlockConfig) (phase : Fin 4 → ReleasePhase) (n : Nat), img = stagingByte s.store.staging →
    c = (if imageFailure img = none then imageConfig img else defaultConfig) →
    (∀ d : Fin 4, phase d = if imageFailure img = none ∧ c.door[d] = false then .none else s.doors.door[d].phase) →
    n = s.speed.accumulator / (c.pulse / 10) →
    t = { State.poweredOn t.eeprom with
          timebase := s.timebase, freeCount := t.freeCount, pending := s.pending
          sig := { chan := t.sig.chan, hold := .none }
          speed := { SpeedUnit.init with
            accumulator := s.speed.accumulator % (c.pulse / 10), pulseConst := some c.pulse
            working := if s.speed.loaded = true ∧ s.speed.working < 99999999 then min 99999999 (s.speed.working + n)
              else s.speed.working
            tripA := n % 100000, tripB := n % 100000, stored := s.speed.stored, nextSlot := s.speed.nextSlot
            loaded := s.speed.loaded, scheduled := t.speed.scheduled }
          gauges := { gauge := t.gauges.gauge, hold := .none }
          doors := { DoorwayMonitor.init with
            door := t.doors.door, rampDoor := c.rampDoor, dbCause := t.doors.dbCause, diDemand := t.doors.diDemand }
          fault := t.fault
          warn := { WarningManager.init with defs := c.defs, map := c.map }
          out := { OutputUnit.init with
            lamp := t.out.lamp, chime := t.out.chime, nightDuty := c.nightDuty, diOut := t.doors.diDemand, holdOut := true }
          store := { StoreController.init with
            inFlight := t.store.inFlight, source := some .unsaved, staging := s.store.staging
            cfgState := if imageFailure img = none then .ready else .configHold
            result := some (match imageFailure img with
              | none => .valid
              | some f => .failed f.sect f.item f.index) }
          power := { PowerController.init kind cause with enables := some c.enables } } ∧
    (n = 0 ∨ s.speed.loaded = false ∨ s.speed.working + n < s.speed.stored + 10 →
      t.speed.scheduled = .none ∧ t.store.inFlight = none) ∧
    (∀ i : Fin 40, t.sig.chan[i] = { Channel.init with
      cfg := some c.chan[i], cond := if c.chan[i].diag then .normal else .unmonitored }) ∧
    (∀ g : Fin 6, t.gauges.gauge[g] = (s.gauges.gauge[g].reinit kind).afterPreload false c.gauge[g]) ∧
    (∀ d : Fin 4, t.doors.door[d] = { Doorway.init (phase d) with
      configured := some c.door[d]
      state := if imageFailure img ≠ none then .unconfigured else if c.door[d] = false then .disabled
        else if phase d = .none then .openDoor else .released }) ∧
    (t.doors.dbCause = true ↔ ∃ d : Fin 4, t.doors.door[d].state = .openDoor ∨ t.doors.door[d].state = .released) ∧
    (t.doors.diDemand = true ↔ ∃ d : Fin 4, t.doors.door[d].state ≠ .disabled) ∧
    (∀ l : Fin 16, t.out.lamp[l] = { Lamp.init.configure c l with drive :=
      if h : l.val < 12 then (match c.lampFn[l.val] with
        | .door _ => .on
        | _ => .off)
      else if (phase ⟨l.val - 12, by omega⟩).flashes then .flash else .off }) ∧
    (∀ b : Bool, (b = true ↔ ∃ d : Fin 4, (phase d).flashes = true) → t.out.chime = Chime.reinit b) ∧
    KeepsFaults s t ∧ KeepsStore s t

/-- R209: what a WAKE or a RESTART leaves, by its configuration source. -/
def ResetsTo (kind : ResetKind) (cause : WakeCause) (s t : State) : Prop :=
  (s.store.source ≠ some .unsaved → Reinit kind cause s t) ∧
  (s.store.source = some .unsaved → ReinitUnsaved kind cause s t)

end Sys2Proof.Machine
end

