-- ==== Sys2Proof/Certificates/Slice0/Obligations.lean ====
section
/-!
DEFINITION. The statements for the provers, in the manual's order: the whole part, supply and resets, power modes, then the
chapters.  The vocabulary is Safety.lean's.
-/

open Sys2Proof Sys2Proof.Machine

/-! ### The whole part -/

/-- A step carries out the command at the front of the queue on the state with the queue's rest; with no command waiting
the part idles (the model's own queue, log entry 1). -/
def Obligations.StepRunsFrontCommand : Prop :=
  (∀ (c : Instr) (rest : List Instr) (s : State), step { s with pending := c :: rest } = exec c { s with pending := rest }) ∧
  (∀ s : State, s.pending = [] → step s = .next s)

/-- No command changes the queue of waiting commands (the model's own queue, log entry 1). -/
def Obligations.CommandsLeaveQueue : Prop :=
  ∀ (c : Instr) (s t : State), exec c s = .next t → t.pending = s.pending

/-- R183: from every state whose handed accesses stay within their areas, every step completes, and they still do. -/
def Obligations.StepsCompleteInArea : Prop :=
  ∀ s : State, AccessOk s → ∃ t, step s = .next t ∧ AccessOk t

/-- The store's and the staging image's lists keep their canonical form, so that equal contents are equal data. -/
def Obligations.MemoriesStayCanonical : Prop :=
  ∀ s t : State, MemoryOk s → step s = .next t → MemoryOk t

/-- R165: forces and overrides stand only while service mode is OPEN, at most 8 of each, one per channel or output; and
the silence timer runs only then (R170). -/
def Obligations.ServiceListsStayBounded : Prop :=
  ∀ s t : State, ServiceOk s → step s = .next t → ServiceOk t

/-- R114: the active list stays in class rank and in the order of the listing numbers within a class, no class beyond its
quota, no listing number twice, and every number below the next one. -/
def Obligations.ActiveListStaysOrdered : Prop :=
  ∀ s t : State, ActiveListOk s.warn → step s = .next t → ActiveListOk t.warn

/-- The conditions of the four statements above hold right after reset. -/
def Obligations.InvariantsHoldAtReset : Prop :=
  AccessOk State.reset ∧ MemoryOk State.reset ∧ ServiceOk State.reset ∧ ActiveListOk State.reset.warn

/-- R209, R25, R45, R72, R99, R129, R147, R160, R166, R199, R218: what a POWER-ON leaves, where their tables give the value. One
clause is of no table: that the first read of the preload is in flight rests on R192 and on log entry 2, where R199 has none in
flight and R209 has no. -/
def Obligations.StateAfterPowerOn : Prop :=
  State.reset.power.mode = .starting ∧ State.reset.power.lineSettle = some 0 ∧ State.reset.power.supply = 0 ∧
  State.reset.power.supplyClass = .none ∧ State.reset.power.parkBrake = 0 ∧ State.reset.power.holdDemand = true ∧
  State.reset.power.offTimer = none ∧ State.reset.power.parkTimer = none ∧ State.reset.power.claim = none ∧
  State.reset.power.enables = none ∧ State.reset.power.lastReset = .powerOn ∧ State.reset.power.lastWake = .none ∧
  State.reset.store.cfgState = .preloading ∧ State.reset.store.source = none ∧ State.reset.store.faultStands = false ∧
  State.reset.store.inFlight.map Access.purpose = some .preOdo ∧
  (∀ i : Fin 40, State.reset.sig.chan[i].value = 0 ∧ State.reset.sig.chan[i].cond = .unmonitored) ∧
  State.reset.speed.working = 0 ∧ State.reset.speed.moving = false ∧ State.reset.speed.settled = false ∧
  (∀ g : Fin 6, State.reset.gauges.gauge[g].state = .unhomed ∧ State.reset.gauges.gauge[g].known = false) ∧
  (∀ d : Fin 4, State.reset.doors.door[d].state = .unconfigured ∧ State.reset.doors.door[d].phase = .none) ∧
  State.reset.warn.active = [] ∧ State.reset.warn.queue = [] ∧ State.reset.warn.presented = none ∧
  (∀ l : Fin 16, State.reset.out.lamp[l].drive = .off ∧ State.reset.out.lamp[l].protection = .normal) ∧
  (∀ p : Fin 32, State.reset.fault.record[p] = none) ∧
  State.reset.svc = ServiceUnit.init ∧ State.reset.links = Links.init

/-- Without supply, no command but those of the supply has an effect: the model's reading (log entry 23). -/
def Obligations.UnpoweredPartIsInert : Prop :=
  ∀ (c : Instr) (s : State), s.powered = false → c.kind ≠ .supply → exec c s = .next s

/-- R208: in WATCH the sample event, the gauge frame and the warning tick do nothing. That the same holds of every event of the
running part, and of every wake source outside WATCH, is the model's reading (log entry 24). -/
def Obligations.WatchAndRunKeepApart : Prop :=
  ∀ (c : Instr) (s : State), s.powered = true →
    (c.kind = .running → s.power.mode = .watch → exec c s = .next s) ∧
    (c.kind = .watching → s.power.mode ≠ .watch → exec c s = .next s)

/-- R212: the bytes of a frame, met by a receiver in HUNT, are accepted as that frame, whatever follows them on the line. -/
def Obligations.FrameBytesAreReceived : Prop :=
  ∀ (f : Frame) (rest : List Byte) (fuel : Nat), f.payload.length ≤ maxPayload →
    receive (fuel + 1) (f.bytes ++ rest) =
      ((f.kind, f.code, f.tag, f.payload) :: (receive fuel rest).1, (receive fuel rest).2)

/-- R213, R219: a request is the acceptance of the frame that carries its code, its tag and its fields as bytes. That a
typed request is its frame's acceptance is the model's reading (log entries 13 and 14). -/
def Obligations.RequestFramesAreRequests : Prop :=
  ∀ (c : Instr) (l : LinkId) (code tag : Byte) (payload : List Byte) (s : State), c.kind = .request l →
    c.wellFormed = true → c.requestFrame = some (code, tag, payload) →
    payload.length ≤ maxPayload ∧ exec c s = exec (.frameAccepted l 0x01#8 code tag payload) s

/-! ### Supply and resets (chapters 9 and 10) -/

/-- R209, with the reset tables it names: POWER_ON with no write in flight leaves the store's content, the queue and the
model's draw counter, and every other field at its POWER-ON value. After LOSS_OF_SUPPLY the part is without supply, with
every output off, and the store keeps its content where no write was in flight to be cut (R185): that the command leaves the
part so, and that POWER_ON acts on a powered part too, is the model's choice (log entry 23), as are the values no table
gives (log entry 3). -/
def Obligations.SupplyCommandsResetAndTurnOff : Prop :=
  (∀ s : State, (∀ a, s.store.inFlight = some a → a.isWrite = false) →
    exec .powerOn s =
      .next { State.reset with eeprom := s.eeprom, freeCount := s.freeCount, pending := s.pending }) ∧
  (∀ s : State, ∃ t, exec .lossOfSupply s = .next t ∧ t.powered = false ∧ (∀ l : Fin 16, t.energised l = false) ∧
    t.out.dbOut = false ∧ t.out.diOut = false ∧ t.out.holdOut = false ∧ t.chimeTone = false ∧ t.pending = s.pending ∧
    ((∀ a, s.store.inFlight = some a → a.isWrite = false) → t.eeprom = s.eeprom))

/-- R184, R185: POWER_ON, LOSS_OF_SUPPLY and RESTART_RESET cut the access in flight: every store byte is as it was, or is a
byte of the step under way of a write and holds its new value. That any access in flight has a step under way is the model's
reading (log entry 31). -/
def Obligations.CutWritesLeaveOldOrNew : Prop :=
  ∀ (c : Instr) (s : State), c = .powerOn ∨ c = .lossOfSupply ∨ c = .restartReset → MemoryOk s →
    ∃ t, exec c s = .next t ∧ ∀ x, storeByte t.eeprom x = storeByte s.eeprom x ∨
      ∃ a i, s.store.inFlight = some a ∧ a.isWrite = true ∧ i < a.stepBytes.length ∧
        x = a.area.base + a.offset + a.done + i ∧ a.stepBytes[i]? = some (storeByte t.eeprom x)

/-- R209, R192: RESTART_RESET of the running part re-initialises every block, keeping what its chapter keeps, and the
preload reads CONFIG; an UNSAVED image is kept, decides the configuration state at once, and gives every block its
configuration (R197). That the row acts in every mode outside WATCH, and gives up a preload under way, is the model's choice
(log entry 24), as are the values after a reset that no table gives (log entry 3). -/
def Obligations.RestartReinitialises : Prop :=
  ∀ s : State, s.awake = true →
    ∃ t, exec .restartReset s = .next t ∧ ResetsTo .restart .none s t

/-- R208: in WATCH, a KEY, a handle or a frame wakes the part by a WAKE reset where its source is enabled; a source that is
not enabled only moves its own counter or filter. That a wake row is the last count only is the model's choice (log entry
11), as are the values after a reset that no table gives (log entry 3). -/
def Obligations.WakesAnswerTheirEnables : Prop :=
  ∀ s : State, s.powered = true → s.power.mode = .watch →
    (∀ (line : WatchLine) (u : State),
      (match line with
       | .acc => s.power.watchAcc = 4 ∧ u = { s with power := { s.power with watchAcc := 5 } }
       | .ign => s.power.watchIgn = 4 ∧ u = { s with power := { s.power with watchIgn := 5 } }) →
      if s.power.enables.map (fun e => e.key) = some true then ∃ t, exec (.keyWake line) s = .next t ∧ ResetsTo .wake .key s t
      else exec (.keyWake line) s = .next u) ∧
    (∀ d : Fin 4, s.doors.door[d].sense.count = 1 → s.doors.door[d].sense.out = false →
      if s.power.enables.map (fun e => e.handle) = some true then
        ∃ t, exec (.handleWake d) s = .next t ∧ ResetsTo .wake .handle s t
      else exec (.handleWake d) s =
        .next (s.modDoor d (fun D => { D with sense := { raw := true, count := 2, out := true } }))) ∧
    (∀ l : LinkId,
      if s.power.enables.map (fun e => e.link) = some true then ∃ t, exec (.linkWake l) s = .next t ∧ ResetsTo .wake .link s t
      else exec (.linkWake l) s = .next s)

/-- R208, R212: a request or an accepted frame in WATCH is not answered: it leaves its link's receiver in HUNT and acts as
the link wake does. The manual's silence on the two together is filled by log entry 24. -/
def Obligations.FramesInWatchAreWakes : Prop :=
  ∀ (c : Instr) (l : LinkId) (s : State), s.powered = true → s.power.mode = .watch →
    c.kind = .request l ∨ (∃ k code tag p, c = .frameAccepted l k code tag p ∧ p.length ≤ maxPayload) →
    exec c s = exec (.linkWake l) (s.hunting l) ∧ ((s.link l).rx = [] → s.hunting l = s)

/-- R22, R208: a WATCH sample below the wake thresholds moves the counters and the filters, and nothing else; a line's fifth
sample on wakes as KEY_WAKE does. -/
def Obligations.WatchSamplesCount : Prop :=
  ∀ s : State, s.powered = true → s.power.mode = .watch →
    (∀ acc ign : Bool, ¬(acc = true ∧ s.power.watchAcc = 4) → ¬(ign = true ∧ s.power.watchIgn = 4) →
      s.power.watchAcc ≤ 5 → s.power.watchIgn ≤ 5 →
      exec (.watchLineSample acc ign) s = .next { s with power :=
        { s.power with
          watchAcc := if acc then (if s.power.watchAcc < 5 then s.power.watchAcc + 1 else 5) else 0
          watchIgn := if ign then (if s.power.watchIgn < 5 then s.power.watchIgn + 1 else 5) else 0 } }) ∧
    (s.power.watchAcc = 4 → s.power.watchIgn = 0 → exec (.watchLineSample true false) s = exec (.keyWake .acc) s) ∧
    (s.power.watchAcc = 0 → s.power.watchIgn = 4 → exec (.watchLineSample false true) s = exec (.keyWake .ign) s) ∧
    (∀ levels : BitVec 4, (∀ d : Fin 4, ¬(levels.getLsbD d.val = true ∧ s.doors.door[d].sense.count = 1)) →
      (∀ d : Fin 4, s.doors.door[d].sense.count ≤ 2 ∧ (s.doors.door[d].sense.count = 0 → s.doors.door[d].sense.out = false) ∧
        (s.doors.door[d].sense.count = 2 → s.doors.door[d].sense.out = true)) →
      ∃ t, exec (.watchHandleSample levels) s = .next t ∧
        t = { s with doors := { s.doors with door := t.doors.door } } ∧
        ∀ d : Fin 4, t.doors.door[d] = { s.doors.door[d] with sense :=
          { raw := levels.getLsbD d.val
            count := if levels.getLsbD d.val then min 2 (s.doors.door[d].sense.count + 1) else s.doors.door[d].sense.count - 1
            out := if levels.getLsbD d.val then decide (s.doors.door[d].sense.count ≥ 1)
              else s.doors.door[d].sense.out && decide (s.doors.door[d].sense.count ≥ 2) } })

/-! ### Power modes (chapter 10) -/

/-- R201: the 25th sample of IGNITION_LEVEL_CHANGE turns the line's filtered level and clears its counter; the other two
lines stay as they are. That the row is the last count only is the model's choice (log entry 11). -/
def Obligations.IgnitionLevelTurns : Prop :=
  ∀ (line : IgnLine) (s : State), s.awake = true → (s.power.line line).count ≥ 24 →
    ∃ t, exec (.ignitionLevelChange line) s = .next t ∧
      t.power.line line = { level := !(s.power.line line).level, count := 0 } ∧
      (∀ k, k ≠ line → t.power.line k = s.power.line k) ∧ t.eeprom = s.eeprom ∧ t.speed.working = s.speed.working

/-- R203, R204, R206: what a turned line or a changed supply class makes of the power mode. CRANK off and no sag: RUN at IGN
on in ACC, a run start at which the PASSIVE records age (R154), ACC or the off timer at IGN off in RUN, the off timer
started and stopped by ACC in ACC and stopped by IGN in RUN, CRANK at the starter in RUN, and a key return to ACC or RUN in
PARKING, with CRANK at once under the starter. CRANK ends with its line, with IGN, or with the sag, and the RUN rows follow;
a sag in RUN is CRANK. IGN at a sample event that also changes another level or the class takes ACC to RUN and, under the
crank condition, the evaluation of the second change takes RUN to CRANK (log entries 17 and 32). A CRANK entry freezes every
moving gauge target (R60), and a key return in READY ends the parking of the pointers where they stand (R62). That a line's
row is the last count only is the model's choice (log entry 11). -/
def Obligations.IgnitionLevelsMoveTheMode : Prop :=
  (∀ s : State, s.awake = true → s.power.crank.level = false → s.power.supplyClass ≠ .sag →
    (s.power.mode = .acc → s.power.ign.level = false → s.power.ign.count ≥ 24 →
      ∃ t, exec (.ignitionLevelChange .ign) s = .next t ∧ t.power.mode = .run ∧ t.power.offTimer = none ∧
        ((∀ l : Fin 16, s.out.lamp[l].protection = .normal) → t.fault.record = (ageFaults s).fault.record)) ∧
    (s.power.mode = .run → s.power.ign.level = true → s.power.ign.count ≥ 24 → s.power.acc.level = true →
      ∃ t, exec (.ignitionLevelChange .ign) s = .next t ∧ t.power.mode = .acc ∧ t.power.offTimer = none) ∧
    (s.power.mode = .run → s.power.ign.level = true → s.power.ign.count ≥ 24 → s.power.acc.level = false →
      s.power.offTimer = none →
      ∃ t, exec (.ignitionLevelChange .ign) s = .next t ∧ t.power.mode = .run ∧ t.power.offTimer = some 0) ∧
    (s.power.mode = .run → s.power.ign.level = false → s.power.ign.count ≥ 24 →
      ∃ t, exec (.ignitionLevelChange .ign) s = .next t ∧ t.power.mode = .run ∧ t.power.offTimer = none) ∧
    (s.power.mode = .acc → s.power.ign.level = false → s.power.acc.level = true → s.power.acc.count ≥ 24 →
      s.power.offTimer = none →
      ∃ t, exec (.ignitionLevelChange .acc) s = .next t ∧ t.power.mode = .acc ∧ t.power.offTimer = some 0) ∧
    (s.power.mode = .acc → s.power.ign.level = false → s.power.acc.level = false → s.power.acc.count ≥ 24 →
      ∃ t, exec (.ignitionLevelChange .acc) s = .next t ∧ t.power.mode = .acc ∧ t.power.offTimer = none) ∧
    (s.power.mode = .run → s.power.ign.level = true → s.power.crank.count ≥ 24 →
      ∃ t, exec (.ignitionLevelChange .crank) s = .next t ∧ t.power.mode = .crank ∧ t.sig.hold = .crank ∧
        t.gauges.hold = .crank ∧ ∀ g : Fin 6, t.gauges.gauge[g] = s.gauges.gauge[g].frozenAtCrank) ∧
    (s.power.mode = .parking → s.power.ign.level = false → s.power.acc.level = false → s.power.acc.count ≥ 24 →
      ∃ t, exec (.ignitionLevelChange .acc) s = .next t ∧ t.power.mode = .acc ∧ t.power.parkTimer = none ∧
        ∀ g : Fin 6, t.gauges.gauge[g] = if s.store.cfgState = .ready then
          s.gauges.gauge[g].afterKeyReturn (decide (s.gauges.hold ≠ .none)) else s.gauges.gauge[g]) ∧
    (s.power.mode = .parking → s.power.ign.level = false → s.power.ign.count ≥ 24 →
      ∃ t, exec (.ignitionLevelChange .ign) s = .next t ∧ t.power.mode = .run ∧ t.power.parkTimer = none ∧
        (∀ g : Fin 6, t.gauges.gauge[g] = if s.store.cfgState = .ready then
          s.gauges.gauge[g].afterKeyReturn (decide (s.gauges.hold ≠ .none)) else s.gauges.gauge[g]) ∧
        t.fault.record = s.fault.record ∧ (∀ l : Fin 16, t.out.lamp[l].protection = s.out.lamp[l].protection))) ∧
  (∀ s : State, s.awake = true → s.power.crank.level = true →
    (s.power.mode = .parking → s.power.ign.level = false → s.power.ign.count ≥ 24 →
      ∃ t, exec (.ignitionLevelChange .ign) s = .next t ∧ t.power.mode = .crank ∧ t.power.parkTimer = none ∧
        t.sig.hold = .crank ∧ t.gauges.hold = .crank ∧
        ∀ g : Fin 6, t.gauges.gauge[g] = (if s.store.cfgState = .ready then
          s.gauges.gauge[g].afterKeyReturn (decide (s.gauges.hold ≠ .none)) else s.gauges.gauge[g]).frozenAtCrank) ∧
    (s.power.mode = .crank → s.power.ign.level = true → s.power.crank.count ≥ 24 →
      s.power.supplyClass = .normal ∨ s.power.supplyClass = .high →
      ∃ t, exec (.ignitionLevelChange .crank) s = .next t ∧ t.power.mode = .run ∧ t.power.offTimer = none ∧
        t.sig.hold = .settle 0 ∧ t.gauges.hold = .settle 200 ∧ t.fault.record = s.fault.record)) ∧
  (∀ s : State, s.awake = true → s.power.mode = .crank → s.power.ign.level = true → s.power.ign.count ≥ 24 →
    ∃ t, exec (.ignitionLevelChange .ign) s = .next t ∧ t.sig.hold = .settle 0 ∧ t.gauges.hold = .settle 200 ∧
      (s.power.acc.level = true → t.power.mode = .acc ∧ t.power.offTimer = none) ∧
      (s.power.acc.level = false → s.power.offTimer = none → t.power.mode = .run ∧ t.power.offTimer = some 0)) ∧
  (∀ (inp : SampleInputs) (s : State), s.awake = true → s.power.ign.level = true → inp.ign = true →
    ∃ t, exec (.sampleEvent inp) s = .next t ∧
      (s.power.mode = .run → s.power.supplyClass ≠ .sag → t.power.supplyClass = .sag → t.power.mode = .crank ∧
        t.sig.hold = .crank ∧ t.gauges.hold = .crank ∧
        (s.svc.isOpen = false → ∀ g : Fin 6, t.gauges.gauge[g] = s.gauges.gauge[g].frozenAtCrank)) ∧
      (s.power.mode = .crank → s.power.crank.level = false → inp.crank = false →
        s.power.supplyClass ≠ .normal → s.power.supplyClass ≠ .high →
        t.power.supplyClass = .normal ∨ t.power.supplyClass = .high → t.power.mode = .run ∧ t.sig.hold = .settle 0 ∧
        t.gauges.hold = .settle 200)) ∧
  (∀ (inp : SampleInputs) (s : State), s.awake = true → s.power.mode = .acc → s.power.ign.level = false →
    s.power.ign.count ≥ 24 → inp.ign = true →
    ∃ t, exec (.sampleEvent inp) s = .next t ∧ t.power.offTimer = none ∧
      (t.power.crank.level = false ∧ t.power.supplyClass ≠ .sag → t.power.mode = .run) ∧
      (t.power.crank.level = true ∨ t.power.supplyClass = .sag →
        t.power.acc.level ≠ s.power.acc.level ∨ t.power.crank.level ≠ s.power.crank.level ∨
          t.power.supplyClass ≠ s.power.supplyClass →
        t.power.mode = .crank ∧ t.sig.hold = .crank ∧ t.gauges.hold = .crank))

/-- R201, R203: LINE_SETTLE_END ends the settle; STARTING stays until the preload has ended, and then becomes RUN, ACC or
PARKING by the lines. That the timer expires by this row alone is the model's choice (log entry 12). -/
def Obligations.LineSettleEndStarts : Prop :=
  ∀ s : State, s.awake = true → s.power.mode = .starting → s.power.lineSettle.isSome = true →
    (s.store.cfgState = .preloading →
      Does .lineSettleEnd s { s with power := { s.power with lineSettle := none } }) ∧
    (s.store.cfgState ≠ .preloading → s.power.ign.level = false → s.power.acc.level = true →
      Does .lineSettleEnd s { s with power := { s.power with lineSettle := none, mode := .acc, offTimer := none } }) ∧
    (s.store.cfgState ≠ .preloading → s.power.ign.level = true → s.crankCondition = false →
      ∃ t, exec .lineSettleEnd s = .next t ∧ t.power.mode = .run ∧ t.power.lineSettle = none) ∧
    (s.store.cfgState ≠ .preloading → s.power.ign.level = false → s.power.acc.level = false → s.power.claim.isSome = true →
      ∃ t, exec .lineSettleEnd s = .next t ∧ t.power.mode = .parking ∧ t.power.parkTimer = some 0 ∧ t.power.lineSettle = none)

/-- R203, R205: OFF_TIMER_EXPIRY in ACC or RUN enters PARKING, here with a hold claim that keeps it there: the parking timer
starts, the gauges are asked to park, an unwritten odometer is to be written, and service mode closes. That the timer
expires by this row alone is the model's choice (log entry 12). -/
def Obligations.OffTimerExpiryParks : Prop :=
  ∀ s : State, s.awake = true → s.power.mode = .acc ∨ s.power.mode = .run → s.power.offTimer.isSome = true →
    s.power.ign.level = false → s.power.acc.level = false → s.power.claim.isSome = true →
    ∃ t, exec .offTimerExpiry s = .next t ∧ t.power = { s.power with mode := .parking, offTimer := none, parkTimer := some 0 } ∧
      (∀ g : Fin 6, (s.svc.sweep[g] = .inSweep → s.gauges.gauge[g].phase ≠ .none ∧
          (s.gauges.gauge[g].state = .sweep ∨ s.gauges.gauge[g].state = .held)) → t.gauges.gauge[g] =
        (match s.gauges.gauge[g].state with
         | .tracking => { s.gauges.gauge[g] with state := .parking, target := 0, phase := .none }
         | .held => { s.gauges.gauge[g] with state := .parking, target := 0, phase := .none }
         | .sweep => { s.gauges.gauge[g] with state := .parking, target := 0, phase := .none }
         | .homing => { s.gauges.gauge[g] with parkPending := true }
         | _ => s.gauges.gauge[g])) ∧
      (s.speed.loaded = true → s.speed.stored < s.speed.working → t.speed.parking.over = false) ∧
      t.svc.isOpen = false ∧ (s.svc.isOpen = true → t.svc.forces = [] ∧ t.svc.overrides = [] ∧ t.svc.silence = none ∧
        t.svc.lastClose = .powerMode) ∧
      t.eeprom = s.eeprom ∧ t.warn = s.warn ∧ t.sig = s.sig ∧ t.speed.working = s.speed.working

/-- R206: PARKING_TIMER_LIMIT ends the wait for the pointers: with the flush done, no claim and no access in flight the part
enters WATCH; else the timer stands at its limit and nothing else changes. That the timer expires by this row alone, the 0 of
a pointer forgotten at the entry to WATCH (R63, R208) and the values that no table gives there are the model's choices (log
entries 12, 20 and 3). -/
def Obligations.ParkingTimerLimitEndsTheWait : Prop :=
  ∀ s : State, s.awake = true → s.power.mode = .parking → s.power.ign.level = false → s.power.acc.level = false →
    s.power.parkTimer.isSome = true →
    (s.flushDone = true → s.power.claim = none → s.store.inFlight = none →
      ∃ t, exec .parkingTimerLimit s = .next t ∧ EntersWatch s t) ∧
    (s.flushDone = false ∨ s.power.claim.isSome = true ∨ s.store.inFlight.isSome = true →
      Does .parkingTimerLimit s { s with power := { s.power with parkTimer := some 5000 } })

/-- R207, R206: HOLD_CLAIM_EXPIRY ends the claim; in PARKING with nothing else to wait for the part enters WATCH. POWER_HOLD
makes the claim live with 30,000 ms and answers the time; POWER_FREE ends it and answers whether it was live, or ends the
parking at once, where the links are silent (R208). On the Service Link both are answered LOCKED. That the claim expires by
its row alone, the order of the parking conditions, the 0 of a pointer forgotten at the entry to WATCH (R63) and the values
that no table gives there are the model's choices (log entries 12, 18, 20 and 3). -/
def Obligations.HoldClaimsStartAndEnd : Prop :=
  (∀ s : State, s.awake = true →
    (s.power.mode ≠ .parking → ModeSettled s → Does .holdClaimExpiry s { s with power := { s.power with claim := none } }) ∧
    (s.power.mode = .parking → s.power.ign.level = false → s.power.acc.level = false → s.power.claim.isSome = true →
      s.gaugesAtRest = true ∨ s.power.parkTimer = some 5000 → s.flushDone = true → s.store.inFlight = none →
      ∃ t, exec .holdClaimExpiry s = .next t ∧ EntersWatch s t)) ∧
  (∀ (tag : Byte) (s : State),
    (Admits .display s → ModeSettled { s with power := { s.power with claim := some 30000 } } →
      RepliesWith (.powerHold .display tag) .display 0x2E#8 tag .ok [0x75#8, 0x30#8] s
        { s with power := { s.power with claim := some 30000 } }) ∧
    (Admits .display s → ModeSettled { s with power := { s.power with claim := none } } →
      RepliesWith (.powerFree .display tag) .display 0x2F#8 tag .ok [if s.power.claim.isSome then 1#8 else 0#8] s
        { s with power := { s.power with claim := none } }) ∧
    (Admits .display s → s.power.mode = .parking → s.power.ign.level = false → s.power.acc.level = false →
      s.power.claim.isSome = true → s.gaugesAtRest = true ∨ s.power.parkTimer = some 5000 → s.flushDone = true →
      s.store.inFlight = none → ∃ t, exec (.powerFree .display tag) s = .next t ∧ EntersWatch s t) ∧
    (Admits .service s →
      RepliesWith (.powerHold .service tag) .service 0x2E#8 tag .locked [] s (s.heard .service) ∧
      RepliesWith (.powerFree .service tag) .service 0x2F#8 tag .locked [] s (s.heard .service)))

/-! ### Channels (chapter 1) -/

/-- R7: under a threshold of n, n active samples set the filter output whatever it was, n inactive samples clear it, and
fewer leave it.  R8: a step of the average moves toward the sample, never past it, and stands still only at it; a shift of
0 takes the sample. -/
def Obligations.FiltersMoveTowardTheirSamples : Prop :=
  (∀ n k c : Nat, 1 ≤ n → c ≤ n → ∀ out : Bool,
    (n ≤ k → filterRun n (List.replicate k true) (c, out) = (n, true) ∧
      filterRun n (List.replicate k false) (c, out) = (0, false)) ∧
    (k < n → filterRun n (List.replicate k true) (0, false) = (k, false) ∧
      filterRun n (List.replicate k false) (n, true) = (n - k, true))) ∧
  (∀ shift sample out : Nat,
    (out < sample → out < averageStep shift sample out ∧ averageStep shift sample out ≤ sample) ∧
    (sample < out → sample ≤ averageStep shift sample out ∧ averageStep shift sample out < out) ∧
    (out = sample → averageStep shift sample out = out) ∧ averageStep 0 sample out = sample)

/-- R10: the class of a sample from the windows of its channel, tested in the rule's order; an absent window never yields
its class. -/
def Obligations.SampleClassesFollowTheWindows : Prop :=
  ∀ (g : ChanCfg) (q : Nat),
    (g.classOf q = .shortGnd ↔ ∃ x, g.gndMax = some x ∧ q ≤ x) ∧
    (g.classOf q = .shortBat ↔ g.classOf q ≠ .shortGnd ∧ ∃ x, g.batMin = some x ∧ x ≤ q) ∧
    (g.classOf q = .openLine ↔ g.classOf q ≠ .shortGnd ∧ g.classOf q ≠ .shortBat ∧
      ∃ x y, g.openLo = some x ∧ g.openHi = some y ∧ x ≤ q ∧ q ≤ y) ∧
    (g.classOf q = .normal ↔ g.classOf q ≠ .shortGnd ∧ g.classOf q ≠ .shortBat ∧ g.classOf q ≠ .openLine)

/-- R11, R12, R14, R15: a fault class over 50 consecutive samples declares its condition at the 50th and not before, with
the policy's substitute; 50 NORMAL samples clear a declared condition at the 50th and not before. -/
def Obligations.FiftySamplesDeclareAndClear : Prop :=
  ∀ (g : ChanCfg) (c : Channel) (cls : SampleClass) (k : Nat), cls ≠ .normal → c.qual = 0 → c.cand = none →
    (c.cond = .normal → 1 ≤ k →
      (k < 50 → qualifyRun g (List.replicate k cls) c = { c with qual := k, cand := some cls, value := c.filterOut }) ∧
      (k = 50 → qualifyRun g (List.replicate k cls) c = { c with cond := cls.cond, value :=
        match g.policy with
        | .hold => c.filterOut
        | .forceOff => 0
        | .forceOn => 1
        | .substitute v => v })) ∧
    (c.cond = cls.cond → 1 ≤ k →
      (k < 50 → qualifyRun g (List.replicate k .normal) c = { c with qual := k, cand := some .normal }) ∧
      (k = 50 → qualifyRun g (List.replicate k .normal) c = { c with cond := .normal, value := c.filterOut }))

/-- R5, R21, R137, R141, R201, R202: SAMPLE_EVENT takes every channel 0..37 by its rule unless the preload runs, leaves channels
38 and 39, samples the three ignition lines, and forms the supply and its class from what AN7 hands out, forces included; an
entry to CRANK at the same event suspends the monitored channels (R17). Where the mode stays, the H record of a line not
driven high is sampled, an energised lamp's counts move by its current and another lamp's stay, and the duty level follows
HEADLAMP (R134). The order within the event is the model's choice (log entry 17). -/
def Obligations.SampleEventTakesEverySample : Prop :=
  ∀ (inp : SampleInputs) (s : State), s.awake = true →
    ∃ t, exec (.sampleEvent inp) s = .next t ∧
      (∀ i : Fin 40, t.sig.chan[i] = (fun c : Channel =>
          if t.power.mode = .crank ∧ s.power.mode ≠ .crank then c.suspend else c)
        (if s.store.cfgState = .preloading ∨ 38 ≤ i.val then s.sig.chan[i]
         else s.sig.chan[i].sample s.sig.frozen (decide (i.val < 30)) (sampleRead inp i) (sampleSense inp i))) ∧
      t.power.acc = s.power.acc.sample inp.acc ∧ t.power.ign = s.power.ign.sample inp.ign ∧
      t.power.crank = s.power.crank.sample inp.crank ∧
      (s.store.cfgState ≠ .preloading → s.forcedValue 37 = none →
        t.power.supply = t.sig.chan[(37 : Fin 40)].value * 8 ∧ t.power.supplyClass = SupplyClass.ofMv t.power.supply) ∧
      (s.store.cfgState ≠ .preloading → t.svc.forces = s.svc.forces →
        t.power.supply = (t.handed 37).value * 8 ∧ t.power.supplyClass = SupplyClass.ofMv t.power.supply) ∧
      (s.store.cfgState = .preloading → t.power.supply = s.power.supply ∧ t.power.supplyClass = s.power.supplyClass) ∧
      (t.power.mode = s.power.mode → t.out.night = t.roleOn .headlamp ∧
        (∀ d : Fin 4, t.doors.door[d].sense = (if s.energised (handleLamp d) then s.doors.door[d].sense
            else s.doors.door[d].sense.sample 10 (inp.handles.getLsbD d.val)) ∧
          t.doors.door[d].resense = (if s.energised (handleLamp d) then s.doors.door[d].resense
            else min 10 (s.doors.door[d].resense + 1))) ∧
        (∀ (l : Fin 16) (L T : Lamp) (r c n : Nat), L = s.out.lamp[l] → T = t.out.lamp[l] → r = (inp.currents[l]).toNat →
          c = (if L.ocLevel ≤ r then min L.tripAt (L.ocCount + 1) else L.ocCount - 1) →
          n = (if (L.openState = true ↔ L.openLevel ≤ r) then L.openCount + 1 else 0) →
          (s.energised l = false → T.current = L.current ∧ T.protection = L.protection ∧ T.ocCount = L.ocCount ∧
            T.proof = L.proof ∧ T.openCount = L.openCount ∧ T.openState = L.openState) ∧
          (s.energised l = true → T.current = r ∧
            (L.tripAt ≤ c → T.protection = .shutdown ∧ T.ocCount = L.tripAt) ∧
            (c < L.tripAt → T.ocCount = c ∧ (L.protection = .normal → T.protection = .normal) ∧
              (L.protection = .retry → if 499 ≤ L.proof then T.protection = .normal ∧ T.proof = 0 ∧ T.retry = 0
                else T.protection = .retry ∧ T.proof = L.proof + 1)) ∧
            (l.val < 12 → s.power.mode ≠ .crank →
              if n < 50 then T.openCount = n ∧ T.openState = L.openState
              else T.openCount = 0 ∧ T.openState = !L.openState) ∧
            (12 ≤ l.val ∨ s.power.mode = .crank → T.openCount = L.openCount ∧ T.openState = L.openState)))) ∧
      t.eeprom = s.eeprom ∧ t.timebase = s.timebase ∧ t.speed.working = s.speed.working

/-- R11, R14, R15: the 50th sample of LINE_DECLARATION makes the candidate the channel's condition, sets the policy's
substitute and the line-fault marker (R106). R12: the 50th sample of LINE_CLEARING clears a declared condition, and the
value returns to the filter output, or replaces it by another and keeps the value. Neither changes another channel. That
each row is the last count only, and that HOLD keeps the value from before it, is the model's choice (log entries 11 and
15). -/
def Obligations.LastCountsDeclareAndClear : Prop :=
  (∀ (ch : Fin 40) (g : ChanCfg) (k : SampleClass) (s : State), s.awake = true → ModeSettled s →
    s.store.cfgState ≠ .preloading → s.sig.frozen = false → s.sig.chan[ch].cfg = some g → g.diag = true →
    s.sig.chan[ch].cond.declared = false → s.sig.chan[ch].qual = 49 → s.sig.chan[ch].cand = some k → k ≠ .normal →
    ∃ t, exec (.lineDeclaration ch) s = .next t ∧
      t.sig.chan[ch] = { s.sig.chan[ch] with
        cond := k.cond, qual := 0, cand := none, value := g.substituteFor s.sig.chan[ch].value } ∧
      (∀ j, j ≠ ch → t.sig.chan[j] = s.sig.chan[j]) ∧ t.sig.hold = s.sig.hold ∧ t.warn.marker[ch] = true ∧
      (∀ j, j ≠ ch → t.warn.marker[j] = s.warn.marker[j]) ∧ t.warn.active = s.warn.active ∧
      t.power = { s.power with parkBrake := t.power.parkBrake } ∧ t.eeprom = s.eeprom ∧ t.speed.working = s.speed.working) ∧
  (∀ (ch : Fin 40) (g : ChanCfg) (k : SampleClass) (s : State), s.awake = true → ModeSettled s →
    s.store.cfgState ≠ .preloading → s.sig.frozen = false → s.sig.chan[ch].cfg = some g → g.diag = true →
    s.sig.chan[ch].cond.declared = true → s.sig.chan[ch].qual = 49 → s.sig.chan[ch].cand = some k →
    k.cond ≠ s.sig.chan[ch].cond →
    ∃ t, exec (.lineClearing ch) s = .next t ∧
      t.sig.chan[ch] = { s.sig.chan[ch] with
        cond := k.cond, qual := 0, cand := none
        value := if k = .normal then s.sig.chan[ch].filterOut else s.sig.chan[ch].value } ∧
      (∀ j, j ≠ ch → t.sig.chan[j] = s.sig.chan[j]) ∧ t.sig.hold = s.sig.hold ∧
      t.warn.marker[ch] = decide (k ≠ .normal) ∧ (∀ j, j ≠ ch → t.warn.marker[j] = s.warn.marker[j]) ∧
      t.warn.active = s.warn.active ∧ t.power = { s.power with parkBrake := t.power.parkBrake } ∧ t.eeprom = s.eeprom ∧
      t.speed.working = s.speed.working)

/-- R18, R60: SIGNAL_SETTLE_EXPIRY resumes the monitored channels, and CRANK_HOLD_EXPIRY the held gauges. That the timers
expire by these rows alone is the model's choice (log entry 12). -/
def Obligations.SettleExpiriesResume : Prop :=
  ∀ (n : Nat) (s : State), s.awake = true →
    (s.sig.hold = .settle n → ModeSettled s →
      ∃ t, exec .signalSettleExpiry s = .next t ∧ t.sig.hold = .none ∧
        (∀ i : Fin 40, t.sig.chan[i] =
          if s.sig.chan[i].monitored then
            { s.sig.chan[i] with
              qual := 0, cand := none
              cond := if s.sig.chan[i].cond = .suspended then .normal else s.sig.chan[i].cond }
          else s.sig.chan[i]) ∧ t.power = { s.power with parkBrake := t.power.parkBrake } ∧ t.warn = s.warn) ∧
    (s.gauges.hold = .settle n →
      Does .crankHoldExpiry s { s with gauges :=
        { hold := .none
          gauge := updAll s.gauges.gauge (fun _ G =>
            if G.state = .held then
              match G.phase with
              | .none => { G with state := .tracking, divider := 0 }
              | .up => { G with state := .sweep, target := (G.active.map (fun c => c.sweep)).getD G.target }
              | .down => { G with state := .sweep, target := 0 }
            else G) } })

/-! ### Speed and distance (chapter 2) -/

/-- R27, R28, R9: an EDGE_SAMPLE at which no filter output rises moves the two filters only; a FILTERED_EDGE stamps the
channel's ring, of at most 9 readings, sets the period in its raw reading, and on PU0 counts toward the increment. That
FILTERED_EDGE is the last count only is the model's choice (log entry 11), as is the timebase operand (log entry 28). -/
def Obligations.EdgesFeedTheRings : Prop :=
  ∀ (now : Word) (s : State), s.awake = true →
    (∀ a b : Bool,
      ((filterStep (s.edgeThreshold .pu0) a s.speed.pu0.count s.speed.pu0.out).2 = true → s.speed.pu0.out = true) →
      ((filterStep (s.edgeThreshold .pu1) b s.speed.pu1.count s.speed.pu1.out).2 = true → s.speed.pu1.out = true) →
      Does (.edgeSample a b now) s { s with timebase := now, speed :=
        { s.speed with
          pu0 := { s.speed.pu0 with
            count := if a then min (s.edgeThreshold .pu0) (s.speed.pu0.count + 1) else s.speed.pu0.count - 1
            out := (filterStep (s.edgeThreshold .pu0) a s.speed.pu0.count s.speed.pu0.out).2 }
          pu1 := { s.speed.pu1 with
            count := if b then min (s.edgeThreshold .pu1) (s.speed.pu1.count + 1) else s.speed.pu1.count - 1
            out := (filterStep (s.edgeThreshold .pu1) b s.speed.pu1.count s.speed.pu1.out).2 } } }) ∧
    (s.speed.pu1.out = false → s.edgeThreshold .pu1 ≤ s.speed.pu1.count + 1 →
      Does (.filteredEdge .pu1 now) s { (s.modChan 39 (fun c => { c with raw := s.speed.pu1.periodAt now })) with
        timebase := now
        speed := { s.speed with pu1 :=
          { count := s.edgeThreshold .pu1, out := true, last := some now,
            ring := (if 9 ≤ s.speed.pu1.ring.length then s.speed.pu1.ring.drop 1 else s.speed.pu1.ring) ++ [now] } } }) ∧
    (s.speed.pu0.out = false → s.edgeThreshold .pu0 ≤ s.speed.pu0.count + 1 →
      (∀ P, s.speed.pulseConst = some P → s.speed.accumulator + 1 < P / 10) →
      Does (.filteredEdge .pu0 now) s { (s.modChan 38 (fun c => { c with raw := s.speed.pu0.periodAt now })) with
        timebase := now
        speed := { s.speed with
          pu0 := { count := s.edgeThreshold .pu0, out := true, last := some now,
                   ring := (if 9 ≤ s.speed.pu0.ring.length then s.speed.pu0.ring.drop 1 else s.speed.pu0.ring) ++ [now] }
          edges := if s.speed.edges = 0 then 1 else 2
          accumulator := s.speed.accumulator + 1 } })

/-- R36, R37, R40: ODOMETER_INCREMENT subtracts P / 10, adds 0.1 km to the trips and, LOADED and not saturated, to the
working odometer; 10 increments beyond the stored value an idle store starts the write of the next slot. That the row is the
last count only is the model's choice (log entry 11). -/
def Obligations.OdometerCountsTenths : Prop :=
  ∀ (P : Nat) (s : State), s.awake = true → ModeSettled s → s.speed.pulseConst = some P → P / 10 ≤ s.speed.accumulator + 1 →
    (∀ u : State, u = { s with speed :=
        { s.speed with
          accumulator := s.speed.accumulator + 1 - P / 10
          tripA := if s.speed.tripA < 99999 then s.speed.tripA + 1 else 0
          tripB := if s.speed.tripB < 99999 then s.speed.tripB + 1 else 0
          working := if s.speed.loaded = true ∧ s.speed.working < 99999999 then s.speed.working + 1 else s.speed.working } } →
      ∃ t, exec .odometerIncrement s = .next t ∧ SameTraffic s t ∧ t.offFiling = u.offFiling ∧ t.fault.record = s.fault.record ∧
        (s.speed.loaded = false ∨ s.speed.working + 1 < s.speed.stored + 10 ∨ s.speed.scheduled ≠ .none →
          t.offLinks = u.offLinks) ∧
        (s.speed.loaded = true → s.speed.working < 99999999 → s.speed.stored + 10 ≤ s.speed.working + 1 →
          s.speed.scheduled = .none → StoreIdle s →
          t.speed.scheduled = .inFlight ∧ t.store.inFlight =
            some { newAccess (.record .odo) true .odo (16 * s.speed.nextSlot.val) 16 (slotBytes (s.speed.working + 1)) with
              odometer := s.speed.working + 1 }))

/-- R34: the moving flag at each gauge frame, from the estimate of that frame and the flag before; and clear after every
reset (R209): POWER_ON, RESTART_RESET, the RESTART that follows a reply (R181), and each wake (R208). Which command performs
which reset is the model's choice: FRAME_TRANSMITTED itself performs the RESTART and a wake row is its last count (log entry
11), POWER_ON also resets a powered part (log entry 23), and RESTART_RESET acts in every awake mode (log entry 24). -/
def Obligations.MovingFollowsItsHysteresis : Prop :=
  (∀ (now : Word) (s : State), s.awake = true → ∃ t, exec (.gaugeFrame now) s = .next t ∧
    (s.speed.moving = false → t.speed.estimate > 500 → t.speed.moving = true) ∧
    (s.speed.moving = false → t.speed.estimate ≤ 500 → t.speed.moving = false) ∧
    (s.speed.moving = true → t.speed.estimate ≤ 300 → t.speed.moving = false) ∧
    (s.speed.moving = true → t.speed.estimate > 300 → t.speed.moving = true)) ∧
  (∀ s t : State, exec .powerOn s = .next t → t.speed.moving = false) ∧
  (∀ s t : State, s.awake = true → exec .restartReset s = .next t → t.speed.moving = false) ∧
  (∀ (l : LinkId) (f : Frame) (s t : State), s.awake = true → (s.link l).tx = some f → f.restarts = true →
    exec (.frameTransmitted l) s = .next t → t.speed.moving = false) ∧
  (∀ s t : State, s.powered = true → s.power.mode = .watch →
    (∀ line : WatchLine, s.power.enables.any (fun e => e.key) = true →
      (match line with
       | .acc => s.power.watchAcc = 4
       | .ign => s.power.watchIgn = 4) →
      exec (.keyWake line) s = .next t → t.speed.moving = false) ∧
    (∀ d : Fin 4, s.power.enables.any (fun e => e.handle) = true → 1 ≤ s.doors.door[d].sense.count →
      s.doors.door[d].sense.out = false → exec (.handleWake d) s = .next t → t.speed.moving = false) ∧
    (∀ l : LinkId, s.power.enables.any (fun e => e.link) = true →
      exec (.linkWake l) s = .next t → t.speed.moving = false))

/-- R28 to R33, R35, R9: GAUGE_FRAME forms the estimate and the rate as the average over the ring's edges, bounded by the gap
since the newest and brought to range, judges SETTLED, writes the two as the values of channels 38 and 39, and changes no
other channel, no warning and no odometer. The quotient over a span of 0, left open here, and the timebase operand are the
model's choices (log entries 6 and 28). -/
def Obligations.GaugeFrameTakesTheEstimates : Prop :=
  ∀ (now : Word) (s : State), s.awake = true → ModeSettled s →
    ∃ t, exec (.gaugeFrame now) s = .next t ∧ t.timebase = now ∧
      (t.speed.estimate = 0 ∨ (50 ≤ t.speed.estimate ∧ t.speed.estimate ≤ 25000)) ∧ t.speed.rate ≤ 65535 ∧
      (s.speed.pulseConst = none → t.speed.estimate = 0) ∧
      (s.speed.pu0.ring.length < 2 → t.speed.estimate = 0) ∧ (s.speed.pu1.ring.length < 2 → t.speed.rate = 0) ∧
      (t.speed.pu0.ring.length < 2 → t.speed.estimate = 0) ∧ (t.speed.pu1.ring.length < 2 → t.speed.rate = 0) ∧
      (∀ (P k : Nat) (a b : Word), s.speed.pulseConst = some P → t.speed.pu0.ring.head? = some a →
        t.speed.pu0.ring.getLast? = some b → t.speed.pu0.ring.length = k + 1 → 1 ≤ k → ∃ q v : Nat,
        ((b - a).toNat ≠ 0 → q = k * 360000000000 / (P * (b - a).toNat)) ∧
        v = (if (b - a).toNat / k < (now - b).toNat then min q (360000000000 / (P * (now - b).toNat)) else q) ∧
        t.speed.estimate = if v < 50 then 0 else min v 25000) ∧
      (∀ (k : Nat) (a b : Word), t.speed.pu1.ring.head? = some a → t.speed.pu1.ring.getLast? = some b →
        t.speed.pu1.ring.length = k + 1 → 1 ≤ k → ∃ q : Nat,
        ((b - a).toNat ≠ 0 → q = k * 10000000 / (b - a).toNat) ∧
        t.speed.rate = min 65535 (if (b - a).toNat / k < (now - b).toNat then min q (10000000 / (now - b).toNat) else q)) ∧
      t.speed.pu0.ring = s.speed.pu0.ring.filter (fun e => decide ((now - e).toNat ≤ 1000000)) ∧
      t.speed.pu1.ring = s.speed.pu1.ring.filter (fun e => decide ((now - e).toNat ≤ 1000000)) ∧
      (t.speed.settled = true ↔ s.speed.settled = true ∨ (s.speed.pulseConst.isSome = true ∧
        (t.speed.sinceReset ≥ 1000000 ∨ s.speed.edges ≥ 2))) ∧
      t.sig.hold = s.sig.hold ∧ t.sig.chan[(38 : Fin 40)] = { s.sig.chan[(38 : Fin 40)] with value := t.speed.estimate } ∧
      t.sig.chan[(39 : Fin 40)] = { s.sig.chan[(39 : Fin 40)] with value := t.speed.rate } ∧
      (∀ i : Fin 40, i.val < 38 → t.sig.chan[i] = s.sig.chan[i]) ∧ t.speed.accumulator = s.speed.accumulator ∧
      t.speed.working = s.speed.working ∧ t.speed.tripA = s.speed.tripA ∧ t.speed.tripB = s.speed.tripB ∧
      t.warn = s.warn ∧ t.power = s.power ∧ t.eeprom = s.eeprom

/-! ### Gauge pointers (chapter 3) -/

/-- R48, R52 to R55: under a valid record the pipeline stays in range: faces within 0..10000, angles within 0..sweep, the
target between its value and the angle and at rest only there, the position between its value and the target, at most one
slew from where it was. -/
def Obligations.PipelineStaysInRange : Prop :=
  ∀ r : GaugeRaw, gaugeFailingItem r = none →
    (∀ v : Nat, stage1 (gaugeCfgOf r) v ≤ 10000) ∧
    (∀ f : Nat, stage2 (gaugeCfgOf r).points f ≤ (gaugeCfgOf r).sweep) ∧
    (∀ a t : Nat,
      (t < a → t < stage3 (gaugeCfgOf r).damping a t ∧ stage3 (gaugeCfgOf r).damping a t ≤ a) ∧
      (a < t → a ≤ stage3 (gaugeCfgOf r).damping a t ∧ stage3 (gaugeCfgOf r).damping a t < t) ∧
      (t = a → stage3 (gaugeCfgOf r).damping a t = a)) ∧
    (∀ p t : Nat,
      (p ≤ t → p ≤ stage4 (gaugeCfgOf r).slew p t ∧ stage4 (gaugeCfgOf r).slew p t ≤ t ∧
        stage4 (gaugeCfgOf r).slew p t ≤ p + (gaugeCfgOf r).slew ∧
        (t ≤ p + (gaugeCfgOf r).slew → stage4 (gaugeCfgOf r).slew p t = t)) ∧
      (t ≤ p → t ≤ stage4 (gaugeCfgOf r).slew p t ∧ stage4 (gaugeCfgOf r).slew p t ≤ p ∧
        p ≤ stage4 (gaugeCfgOf r).slew p t + (gaugeCfgOf r).slew ∧
        (p ≤ t + (gaugeCfgOf r).slew → stage4 (gaugeCfgOf r).slew p t = t)))

/-- R49 to R55, R57, R59, R61, R64, R66, R69, R70: what GAUGE_FRAME makes of a gauge, by its pointer state: the pipeline
over a channel or a fed value, the sweep's two legs, homing and its end, parking, and a stale face; a staged record waits,
or is applied first where the state allows it; the preload holds the pointers still. That a forgotten position reads 0, and
that a stale face is taken at the frame, is the model's choice (log entry 20). -/
def Obligations.GaugeFrameMovesThePointers : Prop :=
  ∀ (now : Word) (g : Fin 6) (G : Gauge) (s : State), s.awake = true → ModeSettled s →
    G = s.gauges.gauge[g] → ∃ t, exec (.gaugeFrame now) s = .next t ∧ (s.svc.isOpen = false ∨ t.speed.estimate < 100 →
      t.gauges.hold = s.gauges.hold ∧ (s.store.cfgState = .preloading → t.gauges = s.gauges) ∧
      (s.store.cfgState ≠ .preloading → ∀ A : Gauge, A = { G with
          feedAge := min 1000 (G.feedAge + 20)
          face := match G.active with
            | some c => if c.source = .fed ∧ 980 ≤ G.feedAge ∧ G.state ≠ .disabled then c.loSet else G.face
            | none => G.face } →
        (∀ (c : GaugeCfg) (f : Nat), G.staged = none → G.state = .tracking → G.known = true → G.active = some c →
          f = (match c.source with
            | .channel ch => stage1 c (t.handed ch).value
            | .fed => if 980 ≤ G.feedAge then c.loSet else (G.fed.map (stage1 c)).getD c.loSet) →
          t.gauges.gauge[g] = (fun B : Gauge =>
              { B with target := stage3 c.damping B.angle G.target
                       position := stage4 c.slew G.position (stage3 c.damping B.angle G.target) })
            { A with
              divider := (G.divider + 1) % c.divider, face := if G.divider = 0 then f else A.face
              angle := if G.divider = 0 then stage2 c.points f else G.angle }) ∧
        (∀ c : GaugeCfg, G.staged = none → G.state = .held → G.known = true → G.active = some c →
          t.gauges.gauge[g] = { A with position := stage4 c.slew G.position G.target }) ∧
        (G.staged = none → G.state = .disabled → G.known = true →
          t.gauges.gauge[g] = { A with target := 0, position := stage4 200 G.position 0 }) ∧
        (∀ c : GaugeCfg, G.state = .sweep → G.known = true → G.active = some c →
          (G.phase = .up → t.gauges.gauge[g] =
            if stage4 c.slew G.position c.sweep = c.sweep then { A with position := c.sweep, phase := .down, target := 0 }
            else { A with position := stage4 c.slew G.position c.sweep, target := c.sweep }) ∧
          (G.phase = .down → t.gauges.gauge[g] =
              (if stage4 c.slew G.position 0 = 0 then
                { A with position := 0, target := 0, state := .tracking, phase := .none, divider := 0 }
              else { A with position := stage4 c.slew G.position 0, target := 0 }) ∧
            t.svc.sweep[g] = if stage4 c.slew G.position 0 = 0 ∧ s.svc.sweep[g] = .inSweep then .completed
              else s.svc.sweep[g])) ∧
        (G.state = .homing → t.gauges.gauge[g] =
          if 100 < G.homing then { A with homing := G.homing - 100 }
          else { A with
            known := true, position := 0, target := 0, homing := 0, parkPending := false
            state := if G.parkPending then .parked else if s.gauges.hold = .none then .tracking else .held
            divider := if G.parkPending then G.divider else 0 }) ∧
        (G.state = .parking → G.known = true → t.gauges.gauge[g] = { A with
            target := 0, position := stage4 200 G.position 0
            state := if stage4 200 G.position 0 = 0 then .parked else .parking }) ∧
        (G.state = .parked ∨ G.state = .unhomed → t.gauges.gauge[g] = A) ∧
        (∀ (c : GaugeCfg) (B H : Gauge), G.staged = some c →
          G.state = .tracking ∨ G.state = .held ∨ G.state = .disabled →
          B = { G with active := some c, staged := none, divider := 0 } →
          H = (if c.enabled = false then { B with state := .disabled, target := 0, phase := .none }
            else if G.state = .disabled ∧ G.known = false then { B with
              state := .homing, known := false, position := 0, target := 0, phase := .none
              homing := c.sweep + 200, homingDrive := c.sweep + 200 }
            else if G.position ≤ c.sweep ∧ G.target ≤ c.sweep then
              (if G.state = .disabled then { B with state := if s.gauges.hold = .none then .tracking else .held } else B)
            else { B with
              state := .homing, known := false, position := 0, target := 0, phase := .none
              homing := 4520, homingDrive := 4520 }) →
          (∃ v, exec (.gaugeFrame now) (s.modGauge g (fun _ => H)) = .next v ∧ t.gauges.gauge[g] = v.gauges.gauge[g]) ∧
          (G.phase ≠ .none → H.phase = .none → s.svc.sweep[g] = .inSweep → t.svc.sweep[g] = .aborted))))

/-- R59, R60: HOMING_END ends a homing at 0, PARKED where a parking waits for it, else TRACKING, or HELD under a crank hold.
R57: FEED_STALE is the frame at which a fed gauge has had no FEED for 1000 ms: its face is lo_set. That each row is the last
frame only is the model's choice (log entry 11). -/
def Obligations.GaugeEventsEndHomingAndFeed : Prop :=
  ∀ (g : Fin 6) (s : State), s.awake = true → ModeSettled s → s.store.cfgState ≠ .preloading →
    (s.gauges.gauge[g].state = .homing → s.gauges.gauge[g].homing ≤ 100 →
      Does (.homingEnd g) s (s.modGauge g (fun G => { G with
        known := true, position := 0, target := 0, homing := 0, parkPending := false,
        state := if G.parkPending then .parked else if s.gauges.hold = .none then .tracking else .held,
        divider := if G.parkPending then G.divider else 0 }))) ∧
    (∀ c : GaugeCfg, s.gauges.gauge[g].active = some c → c.source = .fed → s.gauges.gauge[g].state ≠ .disabled →
      s.gauges.gauge[g].feedAge = 980 →
      Does (.feedStale g) s (s.modGauge g (fun G => { G with feedAge := 1000, face := c.loSet })))

/-! ### Doorways (chapter 4) -/

/-- R21, R85, R89: HANDLE_CHANGE turns the filter output of a doorway's handle, RESENSE_DONE ends its re-sense with the
level found, and the release phase follows, in every configuration state; the other doorways keep their handles, and a doorway
keeps its phase unless READY finds it not configured (R78). That each row is the last count only is the model's choice (log
entry 11), as is the level of RESENSE_DONE (log entry 26). -/
def Obligations.HandleEventsMoveThePhase : Prop :=
  (∀ masked level : Bool, ReleasePhase.none.takeLevel masked level = (if level = true ∧ masked = false then .pulled else .none) ∧
    ReleasePhase.pulled.takeLevel masked level = (if level then .pulled else .restoredUnacked) ∧
    ReleasePhase.acked.takeLevel masked level = (if level then .acked else .none) ∧
    ReleasePhase.restoredUnacked.takeLevel masked level = (if level then .pulled else .restoredUnacked)) ∧
  (∀ (d : Fin 4) (s : State) (kept : Fin 4 → ReleasePhase → ReleasePhase), s.awake = true → ModeSettled s →
    (∀ (k : Fin 4) (p : ReleasePhase),
      kept k p = if s.store.cfgState = .ready ∧ s.doors.door[k].configured ≠ some true then .none else p) →
    s.energised (handleLamp d) = false →
    (s.doors.door[d].resense = 10 →
      s.doors.door[d].sense.count = (if s.doors.door[d].sense.out then 1 else 9) →
      ∃ t, exec (.handleChange d) s = .next t ∧ t.doors.door[d].sense =
          { raw := !s.doors.door[d].sense.out, count := if s.doors.door[d].sense.out then 0 else 10
            out := !s.doors.door[d].sense.out } ∧
        t.doors.door[d].phase = kept d (if s.doors.door[d].state = .disabled then s.doors.door[d].phase
          else s.doors.door[d].phase.takeLevel (s.masked d) (!s.doors.door[d].sense.out)) ∧
        t.doors.door[d].resense = 10 ∧
        (∀ k : Fin 4, k ≠ d → t.doors.door[k].phase = kept k s.doors.door[k].phase ∧
          t.doors.door[k].sense = s.doors.door[k].sense) ∧
        t.sig = s.sig ∧ t.power = s.power ∧ t.gauges = s.gauges ∧ t.warn = s.warn ∧ t.speed.working = s.speed.working) ∧
    (∀ level : Bool, s.doors.door[d].resense = 9 → s.doors.door[d].sense.raw = level →
      s.doors.door[d].sense.count = (if level then 9 else 0) → s.doors.door[d].sense.out = false →
      ∃ t, exec (.resenseDone d) s = .next t ∧
        t.doors.door[d].sense = { raw := level, count := if level then 10 else 0, out := level } ∧
        t.doors.door[d].phase = kept d (if s.doors.door[d].state = .disabled then s.doors.door[d].phase
          else s.doors.door[d].phase.takeLevel (s.masked d) level) ∧ t.doors.door[d].resense = 10 ∧
        (∀ k : Fin 4, k ≠ d → t.doors.door[k].phase = kept k s.doors.door[k].phase ∧
          t.doors.door[k].sense = s.doors.door[k].sense) ∧
        t.sig = s.sig ∧ t.power = s.power ∧ t.gauges = s.gauges ∧ t.warn = s.warn ∧ t.speed.working = s.speed.working))

/-- R79, R81: CONTRADICTION_EXPIRY confirms a contradiction that stands: the doorway reads FAULT unless a release stands,
and calls for the brake. That the timer expires by this row alone is the model's choice (log entry 12). That a confirmed
contradiction starts no timer again is its reading of R79 (log entry 16). -/
def Obligations.ContradictionExpiryConfirms : Prop :=
  ∀ (d : Fin 4) (s : State), s.awake = true → ModeSettled s → s.store.cfgState = .ready →
    s.doors.door[d].configured = some true → s.doors.door[d].timer.isSome = true → s.roleOn (.locked d) = true →
    s.roleOn (.closed d) = false →
    ∃ t, exec (.contradictionExpiry d) s = .next t ∧ t.doors.door[d].confirmed = true ∧ t.doors.door[d].timer = none ∧
      t.doors.door[d].state = (if s.doors.door[d].phase = .none then .fault else .released) ∧ t.doors.dbCause = true ∧
      (∀ k : Fin 4, t.doors.door[k].sense = s.doors.door[k].sense) ∧ t.sig = s.sig ∧ t.power = s.power ∧ t.gauges = s.gauges ∧
      t.warn = s.warn ∧ t.speed.working = s.speed.working

/-- R76, R82, R91 to R94: at every doorway evaluation, a standing brake demand ends only with every doorway shut and the
ramp and kneel clear; a new one needs a cause and a bus that is settled and not moving; the drive interlock holds while any
doorway is neither LOCKED nor DISABLED or the ramp or kneel is out; open-while-moving is a cause under the moving flag
(R95). Each doorway's state is the first row of R77's table that holds, from its roles, its phase, its confirmed
contradiction and its line fault (R78, R79, R81). -/
def Obligations.InterlocksFollowTheDoorways : Prop :=
  ∀ s : State,
    (s.doors.dbDemand = true → (s.evalDoors.dbDemand = false ↔
      (∀ d : Fin 4, s.evalDoors.door[d].state = .disabled ∨ s.evalDoors.door[d].state = .closed ∨
        s.evalDoors.door[d].state = .locked) ∧ s.roleOn .ramp = false ∧ s.roleOn .kneel = false)) ∧
    (s.doors.dbDemand = false → (s.evalDoors.dbDemand = true ↔ s.evalDoors.dbCause = true ∧ s.speed.moving = false ∧
      s.speed.settled = true)) ∧
    (s.evalDoors.dbCause = true ↔ (∃ d : Fin 4, s.evalDoors.door[d].state = .openDoor ∨
      s.evalDoors.door[d].state = .obstructed ∨ s.evalDoors.door[d].state = .released ∨ s.evalDoors.door[d].state = .fault) ∨
      s.roleOn .ramp = true ∨ s.roleOn .kneel = true) ∧
    (s.evalDoors.diDemand = true ↔ (∃ d : Fin 4, s.evalDoors.door[d].state ≠ .disabled ∧ s.evalDoors.door[d].state ≠ .locked) ∨
      s.roleOn .ramp = true ∨ s.roleOn .kneel = true) ∧
    (s.evalDoors.openMoving = true ↔ s.evalDoors.dbCause = true ∧ s.speed.moving = true) ∧
    (∀ (d : Fin 4) (D E : Doorway), D = s.doors.door[d] → E = s.evalDoors.door[d] →
      (s.store.cfgState ≠ .ready → E.state = .unconfigured ∧ E.confirmed = false ∧ E.lineFault = false ∧ E.phase = D.phase) ∧
      (s.store.cfgState = .ready → D.configured ≠ some true →
        E.state = .disabled ∧ E.confirmed = false ∧ E.lineFault = false ∧ E.phase = .none) ∧
      (s.store.cfgState = .ready → D.configured = some true → E.phase = D.phase ∧
        (E.confirmed = true ↔ D.confirmed = true ∧ s.roleOn (.locked d) = true ∧ s.roleOn (.closed d) = false) ∧
        (E.lineFault = true ↔ (s.role (.closed d)).cond.declared = true ∨ (s.role (.locked d)).cond.declared = true ∨
          (s.role (.edge d)).cond.declared = true) ∧
        E.state =
          if D.phase ≠ .none then .released
          else if E.confirmed = true ∨ E.lineFault = true then .fault
          else if s.roleOn (.edge d) = true ∧ s.roleOn (.closed d) = false then .obstructed
          else if s.roleOn (.closed d) = false then .openDoor
          else if s.roleOn (.locked d) = false then .closed
          else .locked))

/-! ### Warnings (chapter 5) -/

/-- R103, R104, R123, R126: WARNING_TICK evaluates every trigger in use that is not held, by its conditions as the tick
finds them; every trigger that turns ON or OFF activates or clears its warning, in the order of the definitions; then it
presents the first unacknowledged entry above SILENT and demands the telltales of all entries. R119, R120: a clearing keeps
an unacknowledged entry of a latched definition and removes any other; a removal from the active list admits the first
waiting entry whose class has room, again and again, until none has. -/
def Obligations.WarningTickEvaluatesTriggers : Prop :=
  (∀ (w : Fin 56) (m : WarningManager),
    (m.keeps w → m.clear w = { m with
      active := m.active.map (fun e => if e.defn = w then { e with present := false } else e)
      queue := m.queue.map (fun e => if e.defn = w then { e with present := false } else e) }) ∧
    (¬m.keeps w → (∀ e ∈ m.active, e.defn ≠ w) →
      m.clear w = { m with queue := m.queue.filter (fun e => decide (e.defn ≠ w)) }) ∧
    (¬m.keeps w → (∃ e ∈ m.active, e.defn = w) → m.clear w = { m with
      active := m.active.filter (fun e => decide (e.defn ≠ w))
      queue := m.queue.filter (fun e => decide (e.defn ≠ w)) }.admitWaiting)) ∧
  (∀ m : WarningManager,
    ((∀ e ∈ m.queue, hasRoom e.cls m.active = false) → m.admitWaiting = m) ∧
    (∀ (e : WarnEntry) (q r : List WarnEntry), m.queue = q ++ e :: r → (∀ x ∈ q, hasRoom x.cls m.active = false) →
      hasRoom e.cls m.active = true →
      m.admitWaiting = { m with
        active := insertEntry { e with number := m.nextNumber } m.active, nextNumber := m.nextNumber + 1
        queue := m.queue.filter (fun x => decide (x.defn ≠ e.defn)) }.admitWaiting) ∧
    (∀ e ∈ m.admitWaiting.queue, hasRoom e.cls m.admitWaiting.active = false)) ∧
  ∀ s : State, s.awake = true → ModeSettled s → s.store.cfgState ≠ .preloading →
    ∃ t, exec .warningTick s = .next t ∧ SameTraffic s t ∧
      (∀ (w : Fin 56) (d : WarnDef) (T : Trigger), d = s.warn.defs[w] → T = s.warn.trigger[w] → t.warn.trigger[w] =
        if d.inUse = true ∧ s.triggerHeld w d = false then
          (match T.state with
           | .on => if (s.warnConds w d).2 then { state := .off, count := 0 } else T
           | _ => if (s.warnConds w d).1 = false then { state := .off, count := 0 }
             else if T.count = d.onDelay then { state := .on, count := 0 } else { state := .arming, count := T.count + 1 })
        else T) ∧
      SameEntries t.warn ((List.finRange 56).foldl (fun m w =>
        if s.warn.trigger[w].state ≠ .on ∧ t.warn.trigger[w].state = .on then m.activate w
        else if s.warn.trigger[w].state = .on ∧ t.warn.trigger[w].state ≠ .on then m.clear w else m) s.warn) ∧
      t.warn.presented = (t.warn.active.find? (fun e => !e.acked && decide (e.cls ≠ .silent))).map (fun e => e.defn) ∧
      (∀ l : Fin 12, t.warn.telltale[l] = true ↔
        ∃ e, e ∈ t.warn.active ++ t.warn.queue ∧ t.warn.defs[e.defn].telltale = some l) ∧
      t.warn.defs = s.warn.defs ∧ t.warn.map = s.warn.map ∧ t.warn.fedFlag = s.warn.fedFlag ∧ t.warn.marker = s.warn.marker ∧
      t.sig = s.sig ∧ t.gauges = s.gauges ∧ t.doors = s.doors ∧ t.svc = s.svc ∧ t.power = s.power ∧ t.eeprom = s.eeprom ∧
      t.speed.working = s.speed.working

/-- R104, R116 to R118: TRIGGER_ACTIVATION turns a trigger ON at the end of its on-delay: an entry the definition holds is
present again; else a new one is listed, STOP always, another class where it has room, or waits last in the queue; a STOP at
a full list first pushes the newest entry of the lowest class present to the head of the queue, and the other entries stay
as they are. That the row is the last evaluation only, with the closing steps, is the model's choice (log entries 11 and
26). -/
def Obligations.ActivationListsTheWarning : Prop :=
  (∀ (e : WarnEntry) (es : List WarnEntry), es.Pairwise (fun a b => a.cls.rank ≤ b.cls.rank) → insertEntry e es =
    es.filter (fun x => decide (x.cls.rank ≤ e.cls.rank)) ++ e :: es.filter (fun x => decide (e.cls.rank < x.cls.rank))) ∧
  (∀ (w : Fin 56) (e : WarnEntry) (m : WarningManager),
    e = { defn := w, cls := m.map[m.defs[w].severity], acked := false, present := true, chimed := false, number := m.nextNumber } →
    (m.holds w = true → m.activate w = { m with
      active := m.active.map (fun x => if x.defn = w then { x with present := true } else x)
      queue := m.queue.map (fun x => if x.defn = w then { x with present := true } else x) }) ∧
    (m.holds w = false →
      (hasRoom e.cls m.active = true → m.activate w = { m with
        active := insertEntry e m.active, nextNumber := m.nextNumber + 1 }) ∧
      (e.cls ≠ .stop → hasRoom e.cls m.active = false → m.activate w = { m with
        queue := m.queue ++ [{ e with number := 0 }] }) ∧
      (∀ v : WarnEntry, e.cls = .stop → 24 ≤ m.active.length → ActiveListOk m → v ∈ m.active → v.cls ≠ .stop →
        (∀ x ∈ m.active, x ≠ v → x.cls.rank < v.cls.rank ∨ (x.cls = v.cls ∧ x.number < v.number)) →
        m.activate w = { m with
          active := insertEntry e (m.active.filter (fun x => decide (x.defn ≠ v.defn))), nextNumber := m.nextNumber + 1
          queue := { v with number := 0 } :: m.queue }))) ∧
  ∀ (w : Fin 56) (d : WarnDef) (s : State), s.awake = true → ModeSettled s → s.store.cfgState ≠ .preloading →
    d = s.warn.defs[w] → d.inUse = true → s.triggerHeld w d = false → s.warn.trigger[w].state ≠ .on →
    (s.warnConds w d).1 = true → s.warn.trigger[w].count = d.onDelay →
    ∃ t, exec (.triggerActivation w) s = .next t ∧ SameTraffic s t ∧ t.warn.trigger[w] = { state := .on, count := 0 } ∧
      (∀ v, v ≠ w → t.warn.trigger[v] = s.warn.trigger[v]) ∧ SameEntries t.warn (s.warn.activate w) ∧
      (s.warn.holds w = true → t.warn.nextNumber = s.warn.nextNumber ∧
        (∀ e, e ∈ t.warn.active ++ t.warn.queue → e.defn = w → e.present = true) ∧
        t.warn.active.map (fun e => e.defn) = s.warn.active.map (fun e => e.defn) ∧
        t.warn.queue.map (fun e => e.defn) = s.warn.queue.map (fun e => e.defn)) ∧
      (s.warn.holds w = false → s.warn.map[d.severity] = .stop ∨ hasRoom s.warn.map[d.severity] s.warn.active = true →
        t.warn.nextNumber = s.warn.nextNumber + 1 ∧ ∃ e, e ∈ t.warn.active ∧ e.defn = w ∧ e.cls = s.warn.map[d.severity] ∧
          e.number = s.warn.nextNumber ∧ e.present = true ∧ e.acked = false) ∧
      (s.warn.holds w = false → s.warn.map[d.severity] ≠ .stop → hasRoom s.warn.map[d.severity] s.warn.active = false →
        t.warn.nextNumber = s.warn.nextNumber ∧
        t.warn.active.map (fun e => e.defn) = s.warn.active.map (fun e => e.defn) ∧
        t.warn.queue.map (fun e => e.defn) = s.warn.queue.map (fun e => e.defn) ++ [w]) ∧
      t.sig = s.sig ∧ t.gauges = s.gauges ∧ t.doors = s.doors ∧ t.svc = s.svc ∧ t.power = s.power ∧ t.eeprom = s.eeprom ∧
      t.speed.working = s.speed.working

/-! ### Lamp, chime and interlock drivers (chapter 6) -/

/-- R138, R139: a trip shuts a lamp output down with a retry wait, but for the trip of the third retry, which is final; the
wait's expiry makes RETRY; 500 energised samples without a trip return NORMAL. The other lamps stay as they are. That a
trip, a proof and an open-state change are each the last count and leave the current reading, and that a retry wait expires
by its row, are the model's choices (log entries 11 and 12). -/
def Obligations.TripsAndRetriesFollowTheTable : Prop :=
  ∀ (l : Fin 16) (L : Lamp) (s : State), s.awake = true → ModeSettled s → outputEval s = s → L = s.out.lamp[l] →
    (s.energised l = true → L.tripAt ≤ L.ocCount + 1 →
      (L.protection = .normal → ∃ t, exec (.overcurrentTrip l) s = .next t ∧ SameTraffic s t ∧
        t.offFiling = (s.modLamp l (fun _ => { L with
          protection := .shutdown, retry := 0, wait := some 0, ocCount := L.tripAt })).offFiling) ∧
      (L.protection = .retry → Does (.overcurrentTrip l) s (s.modLamp l (fun _ => { L with
          protection := .shutdown, wait := if L.retry < 3 then some 0 else none, ocCount := L.tripAt })))) ∧
    (L.protection = .shutdown → L.wait.isSome = true → Does (.retryWaitExpiry l) s (s.modLamp l (fun _ => { L with
          protection := .retry, retry := L.retry + 1, ocCount := 0, proof := 0, wait := none }))) ∧
    (s.energised l = true → L.protection = .retry → 499 ≤ L.proof →
      ∃ t, exec (.retryProof l) s = .next t ∧ SameTraffic s t ∧
        t.offFiling = (s.modLamp l (fun _ => { L with protection := .normal, retry := 0, proof := 0 })).offFiling) ∧
    (l.val < 12 → s.energised l = true → s.power.mode ≠ .crank → 49 ≤ L.openCount → L.openState = true ∨ 0 < L.openLevel →
      ∃ t, exec (.openStateChange l) s = .next t ∧ SameTraffic s t ∧
        t.offFiling = (s.modLamp l (fun _ => { L with openState := !L.openState, openCount := 0 })).offFiling)

/-- R132, R144: FLASH_HALF_TOGGLE turns the half of a lamp or a chime under FLASH. R143: CHIME_ONESHOT_END ends a one-shot,
and the arbiter takes the pending one-shot or the standing demand, or falls silent; of a pending one-shot beside a standing
demand the higher rank plays: an equal pattern is discarded, a lower one stays pending. That the times expire by these rows
alone is the model's choice (log entry 12). -/
def Obligations.FlashAndChimeEventsTurn : Prop :=
  ∀ s : State, s.awake = true →
    (∀ l : Fin 16, s.out.lamp[l].drive = .flash → Does (.flashHalfToggle (.lamp l)) s
      (s.modLamp l (fun L => { L with half := { driven := !L.half.driven, elapsed := 0 } }))) ∧
    (s.overrideOf .chime = some .flash → Does (.flashHalfToggle .chime) s
      (s.modChime (fun c => { c with half := { driven := !c.half.driven, elapsed := 0 } }))) ∧
    (∀ (p : ChimePattern) (n : Nat), s.out.chime.playing = .oneshot p n → s.overrideOf .chime = none →
      (s.out.chime.doorStanding = false → s.out.chime.warnStanding = none → s.out.chime.pendingShot = none →
        Does .chimeOneshotEnd s (s.modChime (fun c => { c with playing := .none }))) ∧
      (∀ q, s.out.chime.doorStanding = false → s.out.chime.warnStanding = none → s.out.chime.pendingShot = some q →
        Does .chimeOneshotEnd s (s.modChime (fun c => { c with playing := .oneshot q q.shotLength, pendingShot := none }))) ∧
      (s.out.chime.doorStanding = true → s.out.chime.pendingShot = none →
        Does .chimeOneshotEnd s (s.modChime (fun c => { c with playing := .standing .repeatFast 0 }))) ∧
      (∀ q, s.out.chime.doorStanding = false → s.out.chime.warnStanding = some q → s.out.chime.pendingShot = none →
        Does .chimeOneshotEnd s (s.modChime (fun c => { c with playing := .standing q 0 }))) ∧
      (∀ d q, s.out.chime.pendingShot = some q →
        (if s.out.chime.doorStanding then d = .repeatFast else s.out.chime.warnStanding = some d) →
        (q = d → Does .chimeOneshotEnd s (s.modChime (fun c => { c with playing := .standing d 0, pendingShot := none }))) ∧
        (q.rank < d.rank →
          Does .chimeOneshotEnd s (s.modChime (fun c => { c with playing := .oneshot q q.shotLength, pendingShot := none }))) ∧
        (d.rank < q.rank → Does .chimeOneshotEnd s (s.modChime (fun c => { c with playing := .standing d 0 })))))

/-! ### Fault memory (chapter 7) -/

/-- R150 to R158: a present notice leaves an ACTIVE record as it is, makes a PASSIVE one ACTIVE, and else makes a record at
the lowest empty position, or in place of the PASSIVE record that has aged most; with 32 ACTIVE records of other codes it
sets the overflow. A cleared notice makes an ACTIVE record PASSIVE. No other record changes. A creation of a LOADED mirror
with an idle store puts the write of its position in flight, the header's behind it; UNLOADED it marks both dirty. A run
start ages every PASSIVE record. Notices that come while the mirror is being loaded are held, one item a code, with the
freeze data of the first, and at its end are taken in the order they were made. The bytes of a stored record load as that
record, PASSIVE, the later of two with one code; the overflow marker set 0 and the marks of a creation are the model's
choice (log entries 9 and 22). -/
def Obligations.FaultNoticesAreFiled : Prop :=
  (∀ (c : FaultCode) (f : Freeze) (x : Option (Nat × Nat)) (s : State) (n : FaultRec),
    n = { code := c, active := true, count := 1, aging := 0, firstOdo := f.odometer, lastOdo := f.odometer,
          speed := f.speed, supply := f.supply, mode := f.mode, context := x } →
    (∀ (p : Fin 32) (r : FaultRec), s.fault.record[p] = some r → r.code = c →
      (∀ (q : Fin 32) (r' : FaultRec), s.fault.record[q] = some r' → r'.code = c → q = p) →
      (takePresent c f x s).fault.record[p] = some (if r.active then r else { r with
        active := true, count := if r.count < 255 then r.count + 1 else 255, lastOdo := f.odometer, aging := 0,
        context := if c.source = .doorway then x else r.context }) ∧
      (takeCleared c s).fault.record[p] = some { r with active := false } ∧
      (∀ q, q ≠ p → (takePresent c f x s).fault.record[q] = s.fault.record[q] ∧
        (takeCleared c s).fault.record[q] = s.fault.record[q]) ∧
      (takePresent c f x s).fault.overflow = s.fault.overflow) ∧
    ((∀ (q : Fin 32) (r' : FaultRec), s.fault.record[q] = some r' → r'.code ≠ c) →
      takeCleared c s = s ∧
      (∀ p : Fin 32, s.fault.record[p] = none → (∀ q : Fin 32, q.val < p.val → s.fault.record[q] ≠ none) →
        (takePresent c f x s).fault.record[p] = some n ∧
        (∀ q, q ≠ p → (takePresent c f x s).fault.record[q] = s.fault.record[q]) ∧
        (s.fault.loaded = false → (takePresent c f x s).fault.dirty[p] = true ∧
          (takePresent c f x s).fault.headerDirty = true ∧ (takePresent c f x s).store = s.store) ∧
        (s.fault.loaded = true → StoreIdle s → (takePresent c f x s).store.inFlight =
            some (newAccess (.record (.position p)) true .faults (64 + 48 * p.val) 48 (positionBytes (some n))) ∧
          (takePresent c f x s).store.waiting.record = some (.record .header) ∧
          (takePresent c f x s).fault.dirty[p] = false)) ∧
      (∀ (p : Fin 32) (r : FaultRec), (∀ q : Fin 32, s.fault.record[q] ≠ none) → s.fault.record[p] = some r →
        r.active = false →
        (∀ (q : Fin 32) (r' : FaultRec), q ≠ p → s.fault.record[q] = some r' → r'.active = false →
          r'.aging < r.aging ∨ (r'.aging = r.aging ∧ (r.lastOdo < r'.lastOdo ∨ (r.lastOdo = r'.lastOdo ∧ p.val < q.val)))) →
        (takePresent c f x s).fault.record[p] = some n ∧
        ∀ q, q ≠ p → (takePresent c f x s).fault.record[q] = s.fault.record[q]) ∧
      ((∀ q : Fin 32, ∃ r, s.fault.record[q] = some r ∧ r.active = true) →
        (takePresent c f x s).fault.record = s.fault.record ∧ (takePresent c f x s).fault.overflow = true)) ∧
    (takePresent c f x s).offFiling = s.offFiling ∧ (takeCleared c s).offFiling = s.offFiling) ∧
  (∀ s : State, (ageFaults s).offFiling = s.offFiling ∧
    (∀ p : Fin 32, (s.fault.record[p] = none → (ageFaults s).fault.record[p] = none) ∧
      ∀ r : FaultRec, s.fault.record[p] = some r →
        (r.active = true → (ageFaults s).fault.record[p] = some r) ∧
        (r.active = false → (ageFaults s).fault.dirty[p] = true ∧
          (ageFaults s).fault.record[p] = if r.aging < 39 then some { r with aging := r.aging + 1 } else none) ∧
        (r.active = false → 39 ≤ r.aging → (ageFaults s).fault.headerDirty = true))) ∧
  (∀ (bytes : List Byte) (m M : FaultMemory) (stored : Fin 32 → Option FaultRec), M = loadMirror bytes m →
    (∀ p : Fin 32, stored p = parsePosition (areaPosition bytes p.val)) →
    M.loaded = true ∧ M.loading = false ∧
    (∀ p : Fin 32, stored p = none → M.record[p] = none ∧ M.dirty[p] = false) ∧
    (∀ (p : Fin 32) (r : FaultRec), stored p = some r →
      ((∀ (q : Fin 32) (r' : FaultRec), q ≠ p → stored q = some r' → r'.code = r.code →
          r'.lastOdo < r.lastOdo ∨ (r'.lastOdo = r.lastOdo ∧ p.val < q.val)) →
        M.record[p] = some { r with active := false } ∧ M.dirty[p] = r.active) ∧
      (∀ (q : Fin 32) (r' : FaultRec), q ≠ p → stored q = some r' → r'.code = r.code →
          r.lastOdo < r'.lastOdo ∨ (r.lastOdo = r'.lastOdo ∧ q.val < p.val) →
        M.record[p] = none ∧ M.dirty[p] = true)) ∧
    (∀ h : List Byte, h = bytes.take 64 →
      if sum8 h = 0 ∧ at1 h 1 ≤ 1 ∧ at1 h 0 ≤ 32 then M.overflow = decide (at1 h 1 = 0) ∧
        M.headerDirty = decide (at1 h 0 ≠ (M.record.toList.filter Option.isSome).length)
      else M.overflow = false ∧ M.headerDirty = true)) ∧
  (∀ (c : FaultCode) (x : Option (Nat × Nat)) (s : State) (f : Freeze),
    f = { odometer := s.speed.working, speed := s.speed.estimate, supply := (s.handed 37).value, mode := s.power.mode.code } →
    (s.fault.loading = false → faultPresent c x s = takePresent c f x s ∧ faultCleared c s = takeCleared c s) ∧
    (s.fault.loading = true →
      ((∀ h ∈ s.fault.held, h.code ≠ c) → faultCleared c s = s ∧ faultPresent c x s = { s with fault :=
        { s.fault with held := s.fault.held ++ [{ code := c, cleared := false, freeze := f, context := x }] } }) ∧
      ((∃ h ∈ s.fault.held, h.code = c) → ∀ b : Bool, (if b then faultCleared c s else faultPresent c x s) =
        { s with fault := { s.fault with
          held := s.fault.held.map (fun h => if h.code = c then { h with cleared := b } else h) } }))) ∧
  (∀ s : State, (s.fault.held = [] → takeHeldNotices s = s) ∧
    ∀ (h : HeldNotice) (rest : List HeldNotice) (u v : State), s.fault.held = h :: rest →
      u = takePresent h.code h.freeze h.context { s with fault := { s.fault with held := [] } } →
      v = (if h.cleared then takeCleared h.code u else u) →
      takeHeldNotices s = takeHeldNotices { v with fault := { v.fault with held := rest } }) ∧
  (∀ r : FaultRec, r.code.valid = true → 1 ≤ r.count → r.count ≤ 255 → r.aging ≤ 39 → r.firstOdo ≤ r.lastOdo →
    r.lastOdo ≤ 99999999 → r.speed < 65536 → r.supply < 65536 → r.mode < 256 →
    (r.context.isSome = true ↔ r.code.source = .doorway) → (∀ a b, r.context = some (a, b) → a < 256 ∧ b < 256) →
    parsePosition (positionBytes (some r)) = some r) ∧
  parsePosition (positionBytes none) = none

/-! ### The persistent store (chapter 9) -/

/-- R184, R186, R189, R190, R40: an answered attempt stores or reads its step and the access goes on; at the last step the
access is over: a link's access is answered OK, a slot write moves the stored odometer and the next slot, a release takes
its source (R196), FAULT_CLEAR and ODO_SET answer OK (R163, R44), each read of the preload loads its block and hands the
next (R192, R39, R156), the held notices filed behind the mirror's load (R155), the last ends the preload at every block,
and the parking flush goes on to its fault part and to its end (R41, R159); a parking write dropped at its start because
that completion has stored its value ends the flush, and with nothing else to wait for the part enters WATCH, its pending
accesses dropped (R206). That a STORE_READ's count done is the count byte of its bytes is the model's choice (log entry 10),
and so is that no waiting access starts between that drop and the evaluation that enters WATCH (log entry 18). -/
def Obligations.AnsweredAttemptsMoveTheAccess : Prop :=
  ∀ (a : Access) (s : State), s.awake = true → MemoryOk s → s.store.inFlight = some a → a.inArea = true →
    (a.done + a.step < a.total → ∃ t b, exec .storeAttemptAnswered s = .next t ∧ SameTraffic s t ∧
      t.offLinks = { s with eeprom := t.eeprom, store := { s.store with inFlight := some b } }.offLinks ∧
      b = { a with done := a.done + a.step, attempts := 0, got := b.got } ∧
      b.got = (if a.isWrite then a.got else a.got ++ (List.range a.step).map (fun i => storeByte s.eeprom (a.start + i))) ∧
      StepStored a s.eeprom t.eeprom) ∧
    (a.total ≤ a.done + a.step → ModeSettled s → StoreIdle { s with store := { s.store with inFlight := none } } →
      s.store.faultStands = false → ∀ got : List Byte,
      got = a.got ++ (List.range a.step).map (fun i => storeByte s.eeprom (a.start + i)) →
      (∀ (l : LinkId) (area : Area) (offset count : Nat) (code tag : Byte), a.purpose = .linkRead l area offset count →
        a.isWrite = false → (s.link l).inFlight = some (code, tag) → ∃ t, exec .storeAttemptAnswered s = .next t ∧
          AnswersHeld l (replyFrame code tag .ok (put1 a.area.code ++ put2 a.offset ++ put1 (a.done + a.step) ++ a.got ++
            (List.range a.step).map (fun i => storeByte s.eeprom (a.start + i))) false) s t ∧
          t.offLinks = { s with store := { s.store with inFlight := none } }.offLinks) ∧
      (∀ (l : LinkId) (area : Area) (offset : Nat) (bytes : List Byte) (m : Bool) (code tag : Byte),
        a.purpose = .linkWrite l area offset bytes m → a.isWrite = true → (s.link l).inFlight = some (code, tag) →
        ∃ t, exec .storeAttemptAnswered s = .next t ∧
          AnswersHeld l (replyFrame code tag .ok (put1 (a.done + a.step)) false) s t ∧
          StepStored a s.eeprom t.eeprom ∧
          t.offLinks = { s with eeprom := t.eeprom, store := { s.store with inFlight := none } }.offLinks) ∧
      (a.purpose = .record .odo → ∃ t, exec .storeAttemptAnswered s = .next t ∧ SameTraffic s t ∧
        StepStored a s.eeprom t.eeprom ∧ t.offLinks = { s with
          eeprom := t.eeprom, store := { s.store with inFlight := none }
          speed := { s.speed with
            scheduled := .none, stored := a.odometer, nextSlot := s.speed.nextSlot + 1 } }.offLinks) ∧
      (∀ (l : LinkId) (m : Bool) (code tag : Byte), a.purpose = .release l m → (s.link l).inFlight = some (code, tag) →
        ∃ t, exec .storeAttemptAnswered s = .next t ∧ AnswersHeld l (replyFrame code tag .ok [] true) s t ∧
          StepStored a s.eeprom t.eeprom ∧ t.offLinks = { s with eeprom := t.eeprom, store := { s.store with
            inFlight := none, releasing := false
            source := if s.store.source = some CfgSource.unsaved then some .store else s.store.source } }.offLinks) ∧
      (∀ code tag : Byte, (s.link .service).inFlight = some (code, tag) →
        (a.purpose = .faultClear → ∃ t, exec .storeAttemptAnswered s = .next t ∧
          AnswersHeld .service (replyFrame code tag .ok [] false) s t ∧ StepStored a s.eeprom t.eeprom ∧
          t.offLinks = { s with
            eeprom := t.eeprom, store := { s.store with inFlight := none }
            fault := { s.fault with loaded := true } }.offLinks) ∧
        (a.purpose = .odoSet → ∃ t, exec .storeAttemptAnswered s = .next t ∧
          AnswersHeld .service (replyFrame code tag .ok [] false) s t ∧ StepStored a s.eeprom t.eeprom ∧
          t.offLinks = { s with
            eeprom := t.eeprom, store := { s.store with inFlight := none }
            speed := { s.speed with stored := a.odometer, nextSlot := s.speed.nextSlot + 1 } }.offLinks)) ∧
      (a.purpose = .preOdo → a.isWrite = false → ∃ t, exec .storeAttemptAnswered s = .next t ∧ SameTraffic s t ∧
        t.offLinks = { s with speed := t.speed, store := { s.store with
          inFlight := some (newAccess .preFaults false .faults 0 1600 []) } }.offLinks ∧
        (∀ (i : Fin 4) (v : Nat), slotValue got i.val = some v →
          (∀ (j : Fin 4) (w : Nat), slotValue got j.val = some w → w < v ∨ (w = v ∧ i.val ≤ j.val)) →
          t.speed = { s.speed with working := v, stored := v, nextSlot := i + 1, loaded := true }) ∧
        ((∀ i : Fin 4, slotValue got i.val = none) →
          t.speed = { s.speed with working := 0, stored := 0, nextSlot := 0, loaded := true })) ∧
      (a.purpose = .preFaults → a.isWrite = false → ∃ t, exec .storeAttemptAnswered s = .next t ∧ SameTraffic s t ∧
        (∀ v : State, v = takeHeldNotices { s with fault := loadMirror got s.fault } → t.offLinks = { v with store :=
          { v.store with inFlight := some (newAccess .preConfig false .config 0 4096 []) } }.offLinks) ∧
        (s.fault.held = [] → t.offLinks = { s with
          fault := loadMirror got s.fault, store := { s.store with
            inFlight := some (newAccess .preConfig false .config 0 4096 []) } }.offLinks)) ∧
      (a.purpose = .preConfig → a.isWrite = false → s.power.mode = .starting → s.power.lineSettle.isSome = true →
        s.svc.isOpen = false → ∃ t, exec .storeAttemptAnswered s = .next t ∧ t.eeprom = s.eeprom ∧
          (∀ x, stagingByte t.store.staging x = got.getD x 0#8) ∧
          ∀ (img : Nat → Byte) (c : BlockConfig), img = stagingByte t.store.staging →
            c = (if imageFailure img = none then imageConfig img else defaultConfig) →
            t.store.cfgState = (if imageFailure img = none then .ready else .configHold) ∧
            t.store.result = some (match imageFailure img with
              | none => .valid
              | some f => .failed f.sect f.item f.index) ∧
            (imageFailure img = none → s.store.source ≠ some .unsaved → t.store.source = some .store) ∧
            (∀ i : Fin 40, t.sig.chan[i].cfg = some c.chan[i]) ∧ t.speed.pulseConst = some c.pulse ∧
            (∀ g : Fin 6, t.gauges.gauge[g] =
              s.gauges.gauge[g].afterPreload (decide (s.gauges.hold ≠ .none)) c.gauge[g]) ∧
            (∀ d : Fin 4, t.doors.door[d].configured = some c.door[d]) ∧ t.doors.rampDoor = c.rampDoor ∧
            t.warn.defs = c.defs ∧ t.warn.map = c.map ∧ t.out.nightDuty = c.nightDuty ∧
            (∀ l : Fin 16, t.out.lamp[l].tripAt = c.tripAt[l]) ∧ t.power.enables = some c.enables ∧
            t.power.mode = .starting)) ∧
    (a.total ≤ a.done + a.step → ModeSettled s → s.store.faultStands = false → s.store.waiting = PendingAccesses.init →
      s.fault.items = [] →
      (a.purpose = .parkOdo → s.speed.parkingAgain = false → ∃ t, exec .storeAttemptAnswered s = .next t ∧
        SameTraffic s t ∧ StepStored a s.eeprom t.eeprom ∧
        t.speed = { s.speed with parking := .done, stored := a.odometer, nextSlot := s.speed.nextSlot + 1 } ∧
        (s.fault.part.over = true → t.flushDone = true ∧ t.store.inFlight = none) ∧
        (∀ p : Fin 32, s.fault.part = .waiting → s.fault.dirty[p] = true →
          (∀ q : Fin 32, q.val < p.val → s.fault.dirty[q] = false) → t.fault.part = .inFlight ∧
          t.fault.dirty = s.fault.dirty.set p false ∧ t.store.inFlight =
            some (newAccess (.parkItem (.position p)) true .faults (64 + 48 * p.val) 48 (positionBytes s.fault.record[p])))) ∧
      (∀ item : WriterItem, a.purpose = .parkItem item → s.speed.parking.over = true → s.fault.part = .inFlight →
        s.fault.partAgain = false → ∃ t, exec .storeAttemptAnswered s = .next t ∧ SameTraffic s t ∧
        StepStored a s.eeprom t.eeprom ∧
        (s.fault.partItems = [] → t.flushDone = true ∧ t.offLinks = { s with
          eeprom := t.eeprom, store := { s.store with inFlight := none }, fault := { s.fault with part := .done } }.offLinks) ∧
        (∀ (p : Fin 32) (rest : List WriterItem), s.fault.partItems = .position p :: rest → t.offLinks = { s with
          eeprom := t.eeprom, fault := { s.fault with partItems := rest, dirty := s.fault.dirty.set p false }
          store := { s.store with inFlight := some (newAccess (.parkItem (.position p)) true .faults (64 + 48 * p.val) 48
            (positionBytes s.fault.record[p])) } }.offLinks) ∧
        (s.fault.partItems = [.header] → t.offLinks = { s with
          eeprom := t.eeprom, fault := { s.fault with partItems := [], headerDirty := false }
          store := { s.store with
            inFlight := some (newAccess (.parkItem .header) true .faults 0 64 s.headerBytes) } }.offLinks))) ∧
    (a.total ≤ a.done + a.step → a.purpose = .record .odo → s.store.faultStands = false → s.power.mode = .parking →
      s.power.ign.level = false → s.power.acc.level = false → s.power.claim = none → s.pointersReleased = true →
      s.speed.parking = .waiting → s.speed.parkingAgain = false → s.fault.part.over = true → s.speed.working ≤ a.odometer →
      s.store.waiting.preload = none → s.store.waiting.parkFlush = none ∨ s.store.waiting.parkFlush = some .parkOdo →
      ∃ t, exec .storeAttemptAnswered s = .next t ∧ t.power.mode = .watch ∧ t.store.inFlight = none ∧
        t.store.waiting = PendingAccesses.init ∧ StepStored a s.eeprom t.eeprom ∧ t.speed.stored = a.odometer ∧
        t.speed.nextSlot = s.speed.nextSlot + 1)

/-- R184, R188: an unanswered attempt is counted and tried again; the third ends the access with STORE_FAULT: the indication
stands with its requester, area and page, and each byte of the store is old, or new where the step would have put it. A held
reply is STORE_FAULT, a write's with the count that it has done (R190), a release leaves the source UNSAVED (R196), an
odometer write leaves the stored odometer (R40), and a failed read of the preload leaves its block UNLOADED or no image
(R39, R156, R192). -/
def Obligations.LostAttemptsEndInStoreFault : Prop :=
  ∀ (a : Access) (s : State), s.awake = true → MemoryOk s → s.store.inFlight = some a → a.inArea = true →
    (a.attempts < 2 → Does .storeAttemptTimeout s
      { s with store := { s.store with inFlight := some { a with attempts := a.attempts + 1 } } }) ∧
    (2 ≤ a.attempts → ∃ t, exec .storeAttemptTimeout s = .next t ∧ t.store.faultStands = true ∧
      t.store.lastFailure = some (a.purpose.requester, a.area, a.start / 32) ∧
      (∀ x, storeByte t.eeprom x = storeByte s.eeprom x ∨ (a.isWrite = true ∧ a.start ≤ x ∧ x < a.start + a.stepBytes.length ∧
        storeByte t.eeprom x = a.stepBytes.getD (x - a.start) 0#8)) ∧
      (ModeSettled s → (∀ (l : LinkId) (area : Area) (offset count : Nat) (code tag : Byte),
        a.purpose = .linkRead l area offset count → (s.link l).inFlight = some (code, tag) →
        AnswersHeld l (replyFrame code tag .storeFault [0#8] false) s t) ∧
        (∀ (l : LinkId) (area : Area) (offset : Nat) (bytes : List Byte) (m : Bool) (code tag : Byte),
          a.purpose = .linkWrite l area offset bytes m → (s.link l).inFlight = some (code, tag) →
          AnswersHeld l (replyFrame code tag .storeFault (put1 a.done) false) s t) ∧
        (∀ (l : LinkId) (m : Bool) (code tag : Byte), a.purpose = .release l m → (s.link l).inFlight = some (code, tag) →
          AnswersHeld l (replyFrame code tag .storeFault [] true) s t ∧ t.store.source = some .unsaved ∧
          t.store.releasing = false ∧ t.store.staging = s.store.staging) ∧
        (∀ code tag : Byte, a.purpose = .odoSet ∨ a.purpose = .faultClear → (s.link .service).inFlight = some (code, tag) →
          AnswersHeld .service (replyFrame code tag .storeFault [] false) s t) ∧
        (a.purpose = .odoSet ∨ a.purpose = .parkOdo ∨ a.purpose = .record .odo →
          t.speed.stored = s.speed.stored ∧ t.speed.nextSlot = s.speed.nextSlot) ∧
        (a.purpose = .preOdo → t.speed.loaded = false ∧ t.speed.working = 0 ∧ t.speed.stored = 0 ∧ t.speed.nextSlot = 0) ∧
        (a.purpose = .preFaults → t.fault.loaded = false ∧ t.fault.loading = false) ∧
        (a.purpose = .preConfig → s.power.mode = .starting → s.power.lineSettle.isSome = true →
          t.store.cfgState = .configHold ∧ t.store.staging = [] ∧ t.store.result = some .storeFault)))

/-! ### Message links (chapter 11) -/

/-- R213, R214: the tests of a request ahead of its owner's, in the rule's order: BUSY or no answer behind a request in
flight, no answer with nine replies waiting, NOT_READY during the preload, LOCKED and SERVICE_CLOSED by the catalogue,
UNKNOWN_REQUEST for a code that is not in it; none of them changes the part. -/
def Obligations.RequestsAreTestedInOrder : Prop :=
  ∀ (c : Instr) (l : LinkId) (code tag : Byte) (payload : List Byte) (s : State), s.awake = true →
    (c.kind = .request l ∧ c.requestFrame = some (code, tag, payload)) ∨
      (c = .frameAccepted l 0x01#8 code tag payload ∧ payload.length ≤ maxPayload) →
    ((s.link l).inFlight.isSome = true → (s.link l).replies.length < 8 →
      RepliesWith c l code tag .busy [] s (s.heard l)) ∧
    (((s.link l).inFlight.isSome = true ∧ 8 ≤ (s.link l).replies.length) ∨ 9 ≤ (s.link l).replies.length →
      Discards c l s) ∧
    ((s.link l).inFlight = none → (s.link l).replies.length < 9 → s.store.cfgState = .preloading → code ≠ 0x20#8 →
      RepliesWith c l code tag .notReady [] s (s.heard l)) ∧
    (Admits l s →
      ((l = .display ∧ 0x40 ≤ code.toNat ∧ code.toNat ≤ 0x4B ∧ code ≠ 0x47#8) ∨
        (l = .service ∧ code ∈ [0x22#8, 0x25#8, 0x26#8, 0x27#8, 0x29#8, 0x2B#8, 0x2E#8, 0x2F#8]) →
        RepliesWith c l code tag .locked [] s (s.heard l)) ∧
      (l = .service → s.svc.isOpen = false → code = 0x23#8 ∨ (0x42 ≤ code.toNat ∧ code.toNat ≤ 0x4B ∧ code ≠ 0x47#8) →
        RepliesWith c l code tag .serviceClosed [] s (s.heard l)) ∧
      (code.toNat < 0x20 ∨ (0x33 < code.toNat ∧ code.toNat < 0x40) ∨ 0x4B < code.toNat →
        RepliesWith c l code tag .unknownRequest [] s (s.heard l)) ∧
      (code = 0x20#8 → payload ≠ [] → RepliesWith c l code tag .badArg [] s (s.heard l)))

/-- R170, R212: an accepted frame that is no request is discarded, but for the silence timer. At a receiver in HUNT, bytes that
form no frame, with a bad length or a bad check, are discarded, and the bytes of a frame are its acceptance. That a payload
over 120 bytes is no frame, and that FRAME_REJECTED gives its bytes to the receiver, is the model's choice (log entry 27). -/
def Obligations.OtherFramesAreDiscarded : Prop :=
  ∀ (l : LinkId) (s : State), s.awake = true →
    (∀ (kind code tag : Byte) (p : List Byte), p.length ≤ maxPayload → kind ≠ 0x01#8 →
      Discards (.frameAccepted l kind code tag p) l s) ∧
    (∀ (kind code tag : Byte) (p : List Byte), maxPayload < p.length → exec (.frameAccepted l kind code tag p) s = .next s) ∧
    ((s.link l).rx = [] →
      (∀ bytes : List Byte, 0x7E#8 ∉ bytes → exec (.frameRejected l bytes) s = .next s) ∧
      (∀ (n : Byte) (rest : List Byte), n.toNat < 3 ∨ 123 < n.toNat → 0x7E#8 ∉ n :: rest →
        exec (.frameRejected l (0x7E#8 :: n :: rest)) s = .next s) ∧
      (∀ (n : Byte) (body : List Byte), 3 ≤ n.toNat → n.toNat ≤ 123 → body.length = n.toNat + 1 → 0x7E#8 ∉ body →
        sum8 (n :: body) ≠ 0 → exec (.frameRejected l (0x7E#8 :: n :: body)) s = .next s) ∧
      (∀ f : Frame, f.payload.length ≤ maxPayload →
        exec (.frameRejected l f.bytes) s = exec (.frameAccepted l f.kind f.code f.tag f.payload) s))

/-- R214, R216, R181: the end of a transmission frees the transmitter, which starts the oldest reply, or with none waiting
the report of the highest-ranked pending topic, formed at that moment (R216), and the RESTART that waits for a reply follows
it. R217: SIGNALS_PERIOD_EXPIRY restarts the period and makes SIGNALS pending, or sends it at once. That FRAME_TRANSMITTED
performs the RESTART itself, the values after a reset that no table gives, the order at the end of a command and the
period's own row are the model's choices (log entries 11, 3, 25 and 12). -/
def Obligations.TransmittersSendTheOldestReply : Prop :=
  ∀ (l : LinkId) (s : State), s.awake = true →
    (∀ f : Frame, (s.link l).tx = some f → f.restarts = false → ∃ t, exec (.frameTransmitted l) s = .next t ∧
      t.offLinks = s.offLinks ∧ (∀ k, (t.link k).settings = (s.link k).settings ∧ (t.link k).inFlight = (s.link k).inFlight) ∧
      (∀ g rest, (s.link l).replies = g :: rest → (t.link l).tx = some g ∧ (t.link l).replies = rest) ∧
      ((s.link l).replies = [] → (s.link l).flag = Vector.replicate 8 false → (t.link l).tx = none) ∧
      (∀ k : Topic, (s.link l).replies = [] → (s.link l).flag[k.index] = true →
        (∀ i : Fin 8, i < k.index → (s.link l).flag[i] = false) →
        (t.link l).tx = some (reportFrame k (s.link l).seq (s.report l k)) ∧ (t.link l).replies = [] ∧
        (t.link l).flag = (s.link l).flag.set k.index false ∧ (t.link l).seq = (s.link l).seq + 1)) ∧
    (∀ f : Frame, (s.link l).tx = some f → f.restarts = true →
      ∃ t, exec (.frameTransmitted l) s = .next t ∧ ResetsTo .restart .none s t) ∧
    ((s.link l).tx = none → ∃ t, exec (.frameTransmitted l) s = .next t ∧ t.offLinks = s.offLinks) ∧
    ((s.link l).period.isSome = true → (s.link l).enabled[(7 : Fin 8)] = true → ∃ t, exec (.signalsPeriodExpiry l) s = .next t ∧
      t.offLinks = s.offLinks ∧ (t.link l).period = some 0 ∧
      ((s.link l).tx.isSome = true → (t.link l).flag[(7 : Fin 8)] = true ∧ t.outgoing l = s.outgoing l) ∧
      (s.outgoing l = [] → (∀ i : Fin 8, i.val < 7 → (s.link l).flag[i] = false) →
        (t.link l).tx = some (reportFrame .signals (s.link l).seq (s.report l .signals)) ∧
        (t.link l).flag[(7 : Fin 8)] = false))

/-! ### Requests (the owners' rules) -/

/-- R26, R43, R97, R127, R161, R215: the reading requests answer what stands now, or BAD_ARG for a field out of range, and
change nothing; STATUS_GET is answered during the preload too. The numbers of set, clear and the other enumerated values in
the replies, and the layouts that no table fixes, are the model's reading (log entries 9 and 10). -/
def Obligations.ReadsLeaveThePartAlone : Prop :=
  ∀ (l : LinkId) (tag : Byte) (s u : State), u = s.heard l →
    (s.awake = true → (s.link l).inFlight = none → (s.link l).replies.length < replyPlaces →
      RepliesWith (.statusGet l tag) l 0x20#8 tag .ok (u.statusBytes l) s u) ∧
    (Admits l s →
      RepliesWith (.doorsGet l tag) l 0x28#8 tag .ok u.doorsBytes s u ∧
      RepliesWith (.odoGet l tag) l 0x2C#8 tag .ok (put4 s.speed.working ++ put4 s.speed.stored ++ put4 s.speed.tripA ++
        put4 s.speed.tripB ++ putBool s.speed.loaded ++ putBool s.odoWritePending ++ put2 s.speed.estimate ++
        put2 s.speed.rate ++ putBool s.speed.settled ++ [if s.speed.moving then 0#8 else 1#8]) s u ∧
      (∀ first count detail : Byte,
        (first.toNat ≤ 39 → 1 ≤ count.toNat → count.toNat ≤ 40 → detail.toNat ≤ 1 →
          ∀ n : Nat, n = min (min count.toNat (if detail = 0#8 then 29 else 9)) (40 - first.toNat) →
          RepliesWith (.signalsGet l tag first count detail) l 0x21#8 tag .ok
            ([first, byte1 n] ++ u.signalEntries detail.toNat first.toNat n) s u) ∧
        (39 < first.toNat ∨ count = 0#8 ∨ 40 < count.toNat ∨ 1 < detail.toNat →
          RepliesWith (.signalsGet l tag first count detail) l 0x21#8 tag .badArg [] s u)) ∧
      (∀ a b : Byte,
        (a.toNat ≤ 1 → b.toNat ≤ 55 →
          RepliesWith (.warnList l tag a b) l 0x24#8 tag .ok (u.warnListBytes a.toNat b.toNat) s u) ∧
        (1 < a.toNat ∨ 55 < b.toNat → RepliesWith (.warnList l tag a b) l 0x24#8 tag .badArg [] s u) ∧
        (a.toNat ≤ 31 → b.toNat ≤ 1 →
          RepliesWith (.faultRead l tag a b) l 0x47#8 tag .ok (u.faultReadBytes a.toNat (decide (b = 1#8))) s u) ∧
        (31 < a.toNat ∨ 1 < b.toNat → RepliesWith (.faultRead l tag a b) l 0x47#8 tag .badArg [] s u)))

/-- R56, R108, R68: FEED stores its values and restarts their ages, FEED_WARN stores its flags, each whole or not at all
(BAD_ARG); GAUGE_SET stages a valid record and refuses in CONFIG_HOLD, a bad index and an invalid record, in that order. The
section of a GAUGE_SET's BAD_CONFIG is the model's choice (log entry 10). -/
def Obligations.FeedsAndGaugeRecordsAreStored : Prop :=
  ∀ (tag : Byte) (s : State),
    (Admits .display s → ∀ es : List (Byte × Half),
      (es ≠ [] → es.length ≤ 6 → (∀ e ∈ es, e.1.toNat ≤ 5) → (es.map (fun e => e.1)).Nodup →
        RepliesWith (.feed .display tag es) .display 0x22#8 tag .ok [] s { s with gauges := { s.gauges with
          gauge := Vector.ofFn (fun g : Fin 6 =>
            match es.find? (fun e => decide (e.1.toNat = g.val)) with
            | some e => { s.gauges.gauge[g] with fed := some e.2.toNat, feedAge := 0 }
            | none => s.gauges.gauge[g]) } }) ∧
      (es = [] ∨ 6 < es.length ∨ (∃ e ∈ es, 5 < e.1.toNat) ∨ ¬(es.map (fun e => e.1)).Nodup →
        RepliesWith (.feed .display tag es) .display 0x22#8 tag .badArg [] s s)) ∧
    (Admits .display s → ∀ es : List (Byte × Byte),
      (es ≠ [] → es.length ≤ 8 →
        (∀ e ∈ es, e.2.toNat ≤ 1 ∧ ∃ w : Fin 48, e.1.toNat = w.val ∧
          (s.warn.defs[w.castLE (by decide : 48 ≤ 56)]).inUse = true ∧
          (s.warn.defs[w.castLE (by decide : 48 ≤ 56)]).kind = .fed) →
        (es.map (fun e => e.1)).Nodup →
        RepliesWith (.feedWarn .display tag es) .display 0x26#8 tag .ok [] s { s with warn := { s.warn with
          fedFlag := Vector.ofFn (fun w : Fin 48 =>
            match es.find? (fun e => decide (e.1.toNat = w.val)) with
            | some e => decide (e.2 = 1#8)
            | none => s.warn.fedFlag[w]) } }) ∧
      (es = [] ∨ 8 < es.length ∨ (∃ e ∈ es, 1 < e.2.toNat ∨ 47 < e.1.toNat ∨ ∃ w : Fin 48, e.1.toNat = w.val ∧
          ¬((s.warn.defs[w.castLE (by decide : 48 ≤ 56)]).inUse = true ∧
            (s.warn.defs[w.castLE (by decide : 48 ≤ 56)]).kind = .fed)) ∨ ¬(es.map (fun e => e.1)).Nodup →
        RepliesWith (.feedWarn .display tag es) .display 0x26#8 tag .badArg [] s s)) ∧
    (∀ (l : LinkId) (gauge : Byte) (r : GaugeRaw) (u : State), Admits l s → (l = .service → s.svc.isOpen = true) →
      u = s.heard l →
      (s.store.cfgState = .configHold → RepliesWith (.gaugeSet l tag gauge r) l 0x23#8 tag .refusedMode [] s u) ∧
      (s.store.cfgState = .ready → 5 < gauge.toNat → RepliesWith (.gaugeSet l tag gauge r) l 0x23#8 tag .badArg [] s u) ∧
      (s.store.cfgState = .ready → gauge.toNat ≤ 5 → ∀ item, gaugeFailingItem r = some item →
        RepliesWith (.gaugeSet l tag gauge r) l 0x23#8 tag .badConfig [3#8, byte1 item, gauge] s u) ∧
      (s.store.cfgState = .ready → ∀ g : Fin 6, gauge.toNat = g.val → gaugeFailingItem r = none →
        RepliesWith (.gaugeSet l tag gauge r) l 0x23#8 tag .accepted [] s
          (u.modGauge g (fun G => { G with staged := some (gaugeCfgOf r) }))))

/-- R42: TRIP_CLEAR zeroes the named trip and nothing else; another trip is BAD_ARG, and the Service Link is LOCKED. -/
def Obligations.TripClearZeroesTheNamedTrip : Prop :=
  ∀ (tag trip : Byte) (s : State),
    (Admits .display s → trip = 0#8 →
      RepliesWith (.tripClear .display tag trip) .display 0x2B#8 tag .ok [] s { s with speed := { s.speed with tripA := 0 } }) ∧
    (Admits .display s → trip = 1#8 →
      RepliesWith (.tripClear .display tag trip) .display 0x2B#8 tag .ok [] s { s with speed := { s.speed with tripB := 0 } }) ∧
    (Admits .display s → 1 < trip.toNat → RepliesWith (.tripClear .display tag trip) .display 0x2B#8 tag .badArg [] s s) ∧
    (Admits .service s → RepliesWith (.tripClear .service tag trip) .service 0x2B#8 tag .locked [] s (s.heard .service))

/-- R135, R140: LAMP_SET takes the display demands of TELLTALE lamps and evaluates; LAMP_RESET returns the named lamps that
are not NORMAL to NORMAL and evaluates; both answer the outputs as they then stand. R130, R134: an energised lamp is driven
at the night duty while HEADLAMP reads 1, else at 1000 ‰, a handle line always at 1000 ‰. The snapshot's bytes rest on log
entries 9 and 10. -/
def Obligations.LampRequestsSetAndReset : Prop :=
  ∀ (tag : Byte) (s : State),
    (Admits .display s → ∀ es : List (Byte × Byte),
      (es ≠ [] → es.length ≤ 12 →
        (∀ e ∈ es, e.2.toNat ≤ 1 ∧ ∃ l : Fin 16, l.val < 12 ∧ e.1.toNat = l.val ∧ s.out.lamp[l].fn = .telltale) →
        (es.map (fun e => e.1)).Nodup →
        ∀ u : State, u = outputEval { s with out := { s.out with
          lamp := Vector.ofFn (fun l : Fin 16 =>
            match es.find? (fun e => decide (e.1.toNat = l.val)) with
            | some e => { s.out.lamp[l] with displayDemand := decide (e.2 = 1#8) }
            | none => s.out.lamp[l]) } } →
        RepliesWith (.lampSet .display tag es) .display 0x29#8 tag .ok u.snapshot s u ∧
        ∀ l : Fin 16, u.lampDrive l = if u.energised l = false then 0
          else if l.val < 12 ∧ s.roleOn .headlamp = true then s.out.nightDuty else 1000) ∧
      (es = [] ∨ 12 < es.length ∨ (∃ e ∈ es, 1 < e.2.toNat ∨ 11 < e.1.toNat ∨ ∃ l : Fin 16, l.val < 12 ∧
          e.1.toNat = l.val ∧ s.out.lamp[l].fn ≠ .telltale) ∨ ¬(es.map (fun e => e.1)).Nodup →
        RepliesWith (.lampSet .display tag es) .display 0x29#8 tag .badArg [] s s)) ∧
    (∀ (l : LinkId) (mask : Half), Admits l s → ModeSettled s → outputEval s = s →
      Leaves (.lampReset l tag mask) l 0x2A#8 tag .ok
        (fun u => put2 (maskOf ((List.finRange 16).map (fun i =>
          mask.getLsbD i.val && decide (s.out.lamp[i].protection ≠ .normal)))) ++ u.snapshot) s
        (fun u => u.offFiling = { s.heard l with out := u.out }.offFiling ∧ u.out = { s.out with lamp := u.out.lamp } ∧
          (∀ i : Fin 16, u.out.lamp[i] =
            if mask.getLsbD i.val = true ∧ s.out.lamp[i].protection ≠ .normal then
              { s.out.lamp[i] with protection := .normal, ocCount := 0, retry := 0, proof := 0, wait := none }
            else s.out.lamp[i])))

/-- R124, R86: WARN_ACK acknowledges the presented entry and removes it where its condition is gone, and answers STALE_ACK with
the presented index otherwise; RELEASE_ACK moves PULLED to ACKED and RESTORED_UNACKED to NONE, else NOT_PENDING; the other
doorways keep their phases, but for one that READY finds not configured (R78). -/
def Obligations.AcknowledgementsAreTaken : Prop :=
  ∀ (tag index : Byte) (s : State), Admits .display s →
    (55 < index.toNat → RepliesWith (.warnAck .display tag index) .display 0x25#8 tag .badArg [] s s) ∧
    (index.toNat ≤ 55 → s.warn.presented = none →
      RepliesWith (.warnAck .display tag index) .display 0x25#8 tag .staleAck [0xFF#8] s s) ∧
    (∀ w : Fin 56, index.toNat ≤ 55 → s.warn.presented = some w → w.val ≠ index.toNat →
      RepliesWith (.warnAck .display tag index) .display 0x25#8 tag .staleAck [byte1 w.val] s s) ∧
    (∀ w : Fin 56, s.warn.presented = some w → w.val = index.toNat →
      Leaves (.warnAck .display tag index) .display 0x25#8 tag .ok (fun _ => []) s (fun u =>
        (∀ e, e ∈ u.warn.active ++ u.warn.queue → e.defn = w → e.acked = true) ∧
        ((∃ e ∈ s.warn.active, e.defn = w ∧ e.present = false) → ∀ e, e ∈ u.warn.active ++ u.warn.queue → e.defn ≠ w) ∧
        ((∀ e ∈ s.warn.active, e.defn = w → e.present = true) →
          u.warn.active.map (fun e => (e.defn, e.cls, e.number, e.present)) =
            s.warn.active.map (fun e => (e.defn, e.cls, e.number, e.present))) ∧
        u.warn.trigger = s.warn.trigger ∧ u.warn.defs = s.warn.defs ∧ u.warn.map = s.warn.map ∧
        u.warn.fedFlag = s.warn.fedFlag ∧ u.warn.marker = s.warn.marker ∧
        u.offLinks = { s with warn := u.warn, out := u.out }.offLinks)) ∧
    (3 < index.toNat → RepliesWith (.releaseAck .display tag index) .display 0x27#8 tag .badArg [] s s) ∧
    (∀ d : Fin 4, index.toNat = d.val →
      (s.doors.door[d].state = .disabled ∨ s.doors.door[d].phase = .none ∨ s.doors.door[d].phase = .acked →
        RepliesWith (.releaseAck .display tag index) .display 0x27#8 tag .notPending [] s s) ∧
      (ModeSettled s → s.doors.door[d].state ≠ .disabled → s.doors.door[d].phase = .pulled ∨ s.doors.door[d].phase = .restoredUnacked →
        ∀ kept : Fin 4 → ReleasePhase → ReleasePhase, (∀ (k : Fin 4) (p : ReleasePhase),
          kept k p = if s.store.cfgState = .ready ∧ s.doors.door[k].configured ≠ some true then .none else p) →
        Leaves (.releaseAck .display tag index) .display 0x27#8 tag .ok (fun _ => []) s (fun u =>
          u.doors.door[d].phase = kept d (if s.doors.door[d].phase = .pulled then .acked else .none) ∧
          (∀ k : Fin 4, k ≠ d → u.doors.door[k].phase = kept k s.doors.door[k].phase) ∧
          (∀ k : Fin 4, u.doors.door[k].sense = s.doors.door[k].sense ∧ u.doors.door[k].resense = s.doors.door[k].resense) ∧
          u.sig = s.sig ∧ u.power = s.power ∧ u.gauges = s.gauges ∧ u.warn = s.warn ∧ u.svc = s.svc ∧
          u.speed.working = s.speed.working ∧ u.eeprom = s.eeprom)))

/-- R189, R190, R44: STORE_READ, STORE_WRITE and ODO_SET of an idle store put their access in flight and hold the reply, a span cut
at the end of its area; the refusals of their rules answer at once and change nothing. -/
def Obligations.StoreRequestsHoldTheirReplies : Prop :=
  ∀ (tag : Byte) (s : State), ModeSettled s →
    (∀ (l : LinkId) (area : Byte) (offset : Half) (count : Byte) (u : State), Admits l s → u = s.heard l →
      (∀ a : Area, Area.ofCode area.toNat = some a → 1 ≤ count.toNat → count.toNat ≤ 96 → offset.toNat < a.size →
        StoreIdle s → ∀ n : Nat, n = min count.toNat (a.size - offset.toNat) →
        Holds (.storeRead l tag area offset count) l 0x30#8 tag s { u with store := { u.store with
          inFlight := some (newAccess (.linkRead l a offset.toNat n) false a offset.toNat n []) } }) ∧
      (count = 0#8 ∨ 96 < count.toNat ∨ (∀ a : Area, Area.ofCode area.toNat = some a → a.size ≤ offset.toNat) →
        RepliesWith (.storeRead l tag area offset count) l 0x30#8 tag .badArg [] s u)) ∧
    (∀ (l : LinkId) (area : Byte) (offset : Half) (bs : List Byte) (u : State), Admits l s → u = s.heard l →
      (area.toNat > 4 ∨ bs = [] ∨ 96 < bs.length →
        RepliesWith (.storeWrite l tag area offset bs) l 0x31#8 tag .badArg [] s u) ∧
      (bs ≠ [] → bs.length ≤ 96 → ∀ a : Area, Area.ofCode area.toNat = some a →
        (a = .config ∨ a = .odo ∨ a = .faults ∨ (a = .ident ∧ (l = .display ∨ offset.toNat < 128)) →
          RepliesWith (.storeWrite l tag area offset bs) l 0x31#8 tag .locked [] s u) ∧
        (a = .ident → l = .service → 128 ≤ offset.toNat → s.svc.isOpen = false →
          RepliesWith (.storeWrite l tag area offset bs) l 0x31#8 tag .serviceClosed [] s u) ∧
        ((a = .user ∨ (a = .ident ∧ l = .service ∧ 128 ≤ offset.toNat ∧ s.svc.isOpen = true)) →
          (a.size ≤ offset.toNat → RepliesWith (.storeWrite l tag area offset bs) l 0x31#8 tag .badArg [] s u) ∧
          (offset.toNat < a.size → StoreIdle s → ∀ kept : List Byte, kept = bs.take (a.size - offset.toNat) →
            Holds (.storeWrite l tag area offset bs) l 0x31#8 tag s { u with store := { u.store with
              inFlight := some (newAccess (.linkWrite l a offset.toNat kept (decide (a = .ident))) true a offset.toNat
                kept.length kept) } })))) ∧
    (∀ (value : Word) (u : State), Admits .service s → s.svc.isOpen = true → u = s.heard .service →
      (99999999 < value.toNat → RepliesWith (.odoSet .service tag value) .service 0x49#8 tag .badArg [] s u) ∧
      (value.toNat ≤ 99999999 → s.speed.loaded = false →
        RepliesWith (.odoSet .service tag value) .service 0x49#8 tag .storeFault [] s u) ∧
      (value.toNat ≤ 99999999 → s.speed.loaded = true → value.toNat < s.speed.working ∨ 500 < s.speed.working →
        RepliesWith (.odoSet .service tag value) .service 0x49#8 tag .refusedMode [] s u) ∧
      (value.toNat ≤ 99999999 → s.speed.loaded = true → s.speed.working ≤ value.toNat → s.speed.working ≤ 500 →
        s.speed.scheduled ≠ .waiting → StoreIdle s →
        Holds (.odoSet .service tag value) .service 0x49#8 tag s { u with
          speed := { u.speed with working := value.toNat }
          store := { u.store with inFlight := some { newAccess .odoSet true .odo (16 * u.speed.nextSlot.val) 16
            (slotBytes value.toNat) with odometer := value.toNat } } }))

/-- R194, R195, R162, R163: CONFIG_PUT writes the staging image up to its end; CONFIG_RELEASE of a sound image puts its
write in flight, and a failing image is BAD_CONFIG; FAULT_CLEAR empties the mirror, re-creates the first 32 faults present
in their order, sets the overflow for more, holds its reply, and with nothing to re-create writes the area at once. The
marks it leaves are the model's reading of R163 (log entry 22). -/
def Obligations.UploadsAndClearsAreStaged : Prop :=
  ∀ (tag : Byte) (s : State), MemoryOk s → ModeSettled s →
    (∀ (l : LinkId) (offset : Half) (bs : List Byte) (u : State), Admits l s → u = s.heard l →
      (s.store.cfgState = .ready → l = .display →
        RepliesWith (.configPut l tag offset bs) l 0x32#8 tag .locked [] s u ∧
        RepliesWith (.configRelease l tag) l 0x33#8 tag .locked [] s u) ∧
      (s.store.cfgState = .ready → l = .service → s.svc.isOpen = false →
        RepliesWith (.configPut l tag offset bs) l 0x32#8 tag .serviceClosed [] s u ∧
        RepliesWith (.configRelease l tag) l 0x33#8 tag .serviceClosed [] s u) ∧
      (s.store.cfgState = .configHold ∨ (l = .service ∧ s.svc.isOpen = true) →
        (s.store.releasing = true ∨ s.store.source = some .unsaved →
          RepliesWith (.configPut l tag offset bs) l 0x32#8 tag .refusedMode [] s u) ∧
        (s.store.releasing = false → s.store.source ≠ some .unsaved → bs = [] ∨ 96 < bs.length ∨ 4096 ≤ offset.toNat →
          RepliesWith (.configPut l tag offset bs) l 0x32#8 tag .badArg [] s u) ∧
        (s.store.releasing = false → s.store.source ≠ some .unsaved → bs ≠ [] → bs.length ≤ 96 → offset.toNat < 4096 →
          ∀ n : Nat, n = min bs.length (4096 - offset.toNat) →
          Leaves (.configPut l tag offset bs) l 0x32#8 tag .ok (fun _ => [byte1 n]) s (fun v =>
            v.offLinks = { u with store := { u.store with staging := v.store.staging } }.offLinks ∧
            ∀ x, stagingByte v.store.staging x =
              if offset.toNat ≤ x ∧ x < offset.toNat + n then bs.getD (x - offset.toNat) 0#8
              else stagingByte s.store.staging x)) ∧
        (s.store.releasing = true → RepliesWith (.configRelease l tag) l 0x33#8 tag .refusedMode [] s u) ∧
        (s.store.releasing = false → ∀ f, imageFailure (stagingByte s.store.staging) = some f →
          RepliesWith (.configRelease l tag) l 0x33#8 tag .badConfig
            [byte1 f.sect, byte1 f.item, byte1 (f.index.getD 255)] s u) ∧
        (s.store.releasing = false → imageFailure (stagingByte s.store.staging) = none → StoreIdle s →
          Holds (.configRelease l tag) l 0x33#8 tag s { u with store := { u.store with
            releasing := true
            inFlight := some (newAccess (.release l (decide (s.store.cfgState = .ready))) true .config 0 4096
              ((List.range 4096).map (stagingByte s.store.staging))) } }))) ∧
    (Admits .service s → s.svc.isOpen = true → ∃ t, exec (.faultClear .service tag) s = .next t ∧
      (t.link .service).inFlight = some (0x48#8, tag) ∧ t.fault.overflow = decide (32 < s.presentFaults.length) ∧
      (∀ p : Fin 32, t.fault.record[p] = s.presentFaults[p.val]?.map (fun c =>
        { code := c.1, active := true, count := 1, aging := 0, firstOdo := s.speed.working, lastOdo := s.speed.working
          speed := s.speed.estimate, supply := (s.handed 37).value, mode := s.power.mode.code, context := c.2 })) ∧
      t.offFiling = (s.heard .service).offFiling) ∧
    (Admits .service s → s.svc.isOpen = true → StoreIdle s → s.presentFaults = [] → ∃ t,
      exec (.faultClear .service tag) s = .next t ∧ (t.link .service).inFlight = some (0x48#8, tag) ∧
      (∀ p : Fin 32, t.fault.record[p] = none ∧ t.fault.dirty[p] = false) ∧ t.fault.overflow = false ∧
      t.fault.headerDirty = false ∧ t.store.inFlight.map Access.purpose = some .faultClear ∧
      t.store.inFlight.map (fun a => (a.isWrite, a.area, a.offset, a.total)) = some (true, .faults, 0, 1600) ∧
      t.offFiling = (s.heard .service).offFiling)

/-- R168, R169, R171 to R173: SERVICE_OPEN opens where its three conditions hold and names those that fail; SERVICE_CLOSE
and the silence timer's expiry close, emptying both lists. That the silence timer expires by its row alone is the model's
choice (log entry 12). -/
def Obligations.ServiceModeOpensAndCloses : Prop :=
  ∀ (tag : Byte) (s u : State), u = s.heard .service →
    (Admits .service s → ∀ mode still brake : Bool,
      (mode = true ↔ s.power.mode = .acc ∨ s.power.mode = .run) →
      (still = true ↔ s.speed.estimate = 0 ∧ s.speed.settled = true) →
      (brake = true ↔ s.store.cfgState = .configHold ∨ (s.role .parkBrake).value = 1) →
      (mode = true → still = true → brake = true →
        (s.svc.isOpen = true → RepliesWith (.serviceOpen .service tag) .service 0x40#8 tag .ok [] s u) ∧
        (s.svc.isOpen = false → RepliesWith (.serviceOpen .service tag) .service 0x40#8 tag .ok [] s
          { u with svc := { u.svc with isOpen := true, silence := some 0 } })) ∧
      (mode = false ∨ still = false ∨ brake = false →
        RepliesWith (.serviceOpen .service tag) .service 0x40#8 tag .refusedMode
          [byte1 ((if mode then 0 else 1) + (if still then 0 else 2) + (if brake then 0 else 4))] s u)) ∧
    (Admits .service s → s.svc.isOpen = false →
      RepliesWith (.serviceClose .service tag) .service 0x41#8 tag .ok [0#8, byte1 s.svc.lastClose.code] s u) ∧
    (Admits .service s → s.svc.isOpen = true → ModeSettled s →
      Leaves (.serviceClose .service tag) .service 0x41#8 tag .ok (fun _ => [0#8, byte1 CloseCause.request.code]) s
        (fun v => v.svc.isOpen = false ∧ v.svc.silence = none ∧ v.svc.lastClose = .request ∧ v.svc.forces = [] ∧
          v.svc.overrides = [] ∧ v.sig = s.sig ∧ v.warn = s.warn ∧ v.power = s.power ∧ v.eeprom = s.eeprom)) ∧
    (s.awake = true → s.svc.isOpen = true → s.svc.silence.isSome = true → ModeSettled s →
      ∃ t, exec .silenceTimerExpiry s = .next t ∧ t.svc.isOpen = false ∧ t.svc.silence = none ∧ t.svc.lastClose = .silence ∧
        t.svc.forces = [] ∧ t.svc.overrides = [] ∧ t.sig = s.sig ∧ t.warn = s.warn ∧ t.power = s.power ∧ t.eeprom = s.eeprom)

/-- R175 to R178, R19, R20, R136: FORCE and UNFORCE change what one channel hands out and no record; OUTPUT_TEST and
OUTPUT_FREE set one output by its override and give it back to its demand; the refusals change nothing. That the supply and
its class take a force of AN7 at the next SAMPLE_EVENT, so that FORCE and UNFORCE leave the Power Controller as it is, is
the model's choice (log entry 17). The snapshot's bytes rest on log entries 9 and 10. -/
def Obligations.ForcesAndOverridesStand : Prop :=
  ∀ (tag : Byte) (s u : State), Admits .service s → s.svc.isOpen = true → ModeSettled s → u = s.heard .service →
    (∀ (ch : Byte) (v : Half), 40 ≤ ch.toNat →
      RepliesWith (.force .service tag ch v) .service 0x42#8 tag .badArg [] s u ∧
      RepliesWith (.unforce .service tag ch) .service 0x43#8 tag .badArg [] s u) ∧
    (∀ (ch : Byte) (v : Half) (i : Fin 40), ch.toNat = i.val →
      ((if i.val < 30 then 1 else if i.val < 38 then 4095 else if i.val = 38 then 25000 else 65535) < v.toNat →
        RepliesWith (.force .service tag ch v) .service 0x42#8 tag .badArg [] s u) ∧
      (v.toNat ≤ (if i.val < 30 then 1 else if i.val < 38 then 4095 else if i.val = 38 then 25000 else 65535) →
        (s.holder .parkBrake = some i → RepliesWith (.force .service tag ch v) .service 0x42#8 tag .refusedMode [] s u) ∧
        (s.holder .parkBrake ≠ some i → (∀ f ∈ s.svc.forces, f.1 ≠ i) → 8 ≤ s.svc.forces.length →
          RepliesWith (.force .service tag ch v) .service 0x42#8 tag .badArg [] s u) ∧
        (s.holder .parkBrake ≠ some i → (∃ f ∈ s.svc.forces, f.1 = i) ∨ s.svc.forces.length < 8 →
          Leaves (.force .service tag ch v) .service 0x42#8 tag .ok State.forceBytes s (fun w =>
            w.svc.forces = (if ∃ f ∈ s.svc.forces, f.1 = i then
                s.svc.forces.map (fun f => if f.1 = i then (i, v.toNat) else f) else s.svc.forces ++ [(i, v.toNat)]) ∧
            (w.handed i).value = v.toNat ∧ (w.handed i).forced = true ∧ (∀ j, j ≠ i → w.handed j = s.handed j) ∧
            w.svc.overrides = s.svc.overrides ∧ w.sig = s.sig ∧ w.warn = s.warn ∧ w.power = s.power ∧
            w.gauges = s.gauges ∧ w.eeprom = s.eeprom))) ∧
      Leaves (.unforce .service tag ch) .service 0x43#8 tag .ok
        (fun w => byte1 (if ∃ f ∈ s.svc.forces, f.1 = i then 1 else 0) :: w.forceBytes) s (fun w =>
          w.svc.forces = s.svc.forces.filter (fun f => decide (f.1 ≠ i)) ∧ (w.handed i).value = s.sig.chan[i].value ∧
          (w.handed i).forced = false ∧ (∀ j, j ≠ i → w.handed j = s.handed j) ∧ w.svc.overrides = s.svc.overrides ∧
          w.sig = s.sig ∧ w.warn = s.warn ∧ w.power = s.power ∧ w.gauges = s.gauges ∧ w.eeprom = s.eeprom)) ∧
    (∀ out set : Byte, OutputId.ofCode out.toNat = none →
      RepliesWith (.outputTest .service tag out set) .service 0x44#8 tag .badArg [] s u ∧
      RepliesWith (.outputFree .service tag out) .service 0x45#8 tag .badArg [] s u) ∧
    (∀ (out set : Byte) (o : OutputId), OutputId.ofCode out.toNat = some o →
      (2 < set.toNat → RepliesWith (.outputTest .service tag out set) .service 0x44#8 tag .badArg [] s u) ∧
      (∀ st : Setting, Setting.ofCode set.toNat = some st →
        ((o = .db ∨ o = .di) ∧ st = .flash ∨ ((∀ x ∈ s.svc.overrides, x.1 ≠ o) ∧ 8 ≤ s.svc.overrides.length) →
          RepliesWith (.outputTest .service tag out set) .service 0x44#8 tag .badArg [] s u) ∧
        (¬((o = .db ∨ o = .di) ∧ st = .flash) → (∃ x ∈ s.svc.overrides, x.1 = o) ∨ s.svc.overrides.length < 8 →
          Leaves (.outputTest .service tag out set) .service 0x44#8 tag .ok (fun w => w.overrideBytes ++ w.snapshot) s
            (fun w => w.overrideOf o = some st ∧ (∀ o', o' ≠ o → w.overrideOf o' = s.overrideOf o') ∧
              (∀ l, o = .lamp l → w.out.lamp[l].drive = st.drive) ∧ (o = .db → w.out.dbOut = decide (st = .on)) ∧
              (o = .di → w.out.diOut = decide (st = .on)) ∧ (o = .chime → w.out.chime.playing = .none) ∧
              w.svc.forces = s.svc.forces ∧ w.sig = s.sig ∧ w.warn = s.warn ∧ w.power = s.power ∧ w.gauges = s.gauges ∧
              w.eeprom = s.eeprom))) ∧
      Leaves (.outputFree .service tag out) .service 0x45#8 tag .ok
        (fun w => byte1 (if ∃ x ∈ s.svc.overrides, x.1 = o then 1 else 0) :: (w.overrideBytes ++ w.snapshot)) s
        (fun w => w.svc.overrides = s.svc.overrides.filter (fun x => decide (x.1 ≠ o)) ∧ w.overrideOf o = none ∧
          (∀ l, o = .lamp l → w.out.lamp[l].drive = w.combined l) ∧ (o = .db → w.out.dbOut = w.doors.dbDemand) ∧
          (o = .di → w.out.diOut = w.doors.diDemand) ∧ w.svc.forces = s.svc.forces ∧ w.sig = s.sig ∧ w.warn = s.warn ∧
          w.power = s.power ∧ w.gauges = s.gauges ∧ w.eeprom = s.eeprom))

/-- R179, R65, R181, R122, R217: SWEEP starts every named gauge, or none where a named gauge cannot sweep, with the mask of
those, or where a sweep runs; RESTART is answered by a reply that a RESTART follows; CLASS_MAP_SET takes a map with at most
16 STOP definitions; REPORT_SET takes the topics and the SIGNALS window of its link. The mask 0 of a SWEEP refused while one
runs, the item of a CLASS_MAP_SET's BAD_CONFIG and the fields of a REPORT_SET reply are the model's choice (log entry 10), as
is the window kept while SIGNALS is disabled (log entry 29). -/
def Obligations.SettingsAndTestsAreTaken : Prop :=
  ∀ (tag : Byte) (s : State),
    (∀ (mask : Byte) (u : State), Admits .service s → s.svc.isOpen = true → u = s.heard .service →
      (mask = 0#8 ∨ 64 ≤ mask.toNat → RepliesWith (.sweep .service tag mask) .service 0x46#8 tag .badArg [] s u) ∧
      (mask ≠ 0#8 → mask.toNat < 64 → s.svc.sweepRunning = false →
        (∀ g : Fin 6, mask.getLsbD g.val = true → s.gauges.gauge[g].state ≠ .tracking ∧ s.gauges.gauge[g].state ≠ .held) →
        RepliesWith (.sweep .service tag mask) .service 0x46#8 tag .refusedMode [mask] s u) ∧
      (mask ≠ 0#8 → mask.toNat < 64 → s.svc.sweepRunning = false → ∀ bad : Byte, bad ≠ 0#8 → bad.toNat < 64 →
        (∀ g : Fin 6, bad.getLsbD g.val = true ↔ mask.getLsbD g.val = true ∧ s.gauges.gauge[g].state ≠ .tracking ∧
          s.gauges.gauge[g].state ≠ .held) →
        RepliesWith (.sweep .service tag mask) .service 0x46#8 tag .refusedMode [bad] s u) ∧
      (mask ≠ 0#8 → mask.toNat < 64 → s.svc.sweepRunning = true →
        RepliesWith (.sweep .service tag mask) .service 0x46#8 tag .refusedMode [0#8] s u) ∧
      (mask ≠ 0#8 → mask.toNat < 64 → s.svc.sweepRunning = false →
        ModeSettled s → (∀ g : Fin 6, mask.getLsbD g.val = true →
          s.gauges.gauge[g].active.isSome = true ∧ (s.gauges.gauge[g].state = .tracking ∨ s.gauges.gauge[g].state = .held)) →
        Leaves (.sweep .service tag mask) .service 0x46#8 tag .accepted (fun _ => []) s (fun w =>
          w.offLinks = { u with gauges := w.gauges, svc := { u.svc with
            sweepRunning := true, sweepResult := .none,
            sweep := Vector.ofFn (fun g : Fin 6 => if mask.getLsbD g.val then .inSweep else .notNamed) } }.offLinks ∧
          w.gauges.hold = s.gauges.hold ∧
          (∀ g : Fin 6, mask.getLsbD g.val = false → w.gauges.gauge[g] = s.gauges.gauge[g]) ∧
          (∀ (g : Fin 6) (c : GaugeCfg), mask.getLsbD g.val = true → s.gauges.gauge[g].active = some c →
            w.gauges.gauge[g] =
              if s.gauges.gauge[g].state = .held then { s.gauges.gauge[g] with phase := .up }
              else { s.gauges.gauge[g] with state := .sweep, phase := .up, target := c.sweep })))) ∧
    (Admits .service s → s.svc.isOpen = true → ∃ t, exec (.restart .service tag) s = .next t ∧
      Placed .service (replyFrame 0x4B#8 tag .ok [] true) s t ∧ Accepted .service s t ∧
      t.offLinks = (s.heard .service).offLinks) ∧
    (∀ (classes : Vector Byte 8) (u : State), Admits .service s → s.svc.isOpen = true → u = s.heard .service →
      ((∃ i : Fin 8, 3 < classes[i].toNat) →
        RepliesWith (.classMapSet .service tag classes) .service 0x4A#8 tag .badArg [] s u) ∧
      (∀ m : Vector WarnClass 8, (∀ i : Fin 8, classes[i].toNat = m[i].code) →
        (16 < (List.finRange 56).countP (fun w => s.warn.defs[w].inUse && decide (m[s.warn.defs[w].severity] = .stop)) →
          RepliesWith (.classMapSet .service tag classes) .service 0x4A#8 tag .badConfig [5#8, 12#8, 0xFF#8] s u) ∧
        ((List.finRange 56).countP (fun w => s.warn.defs[w].inUse && decide (m[s.warn.defs[w].severity] = .stop)) ≤ 16 →
          Leaves (.classMapSet .service tag classes) .service 0x4A#8 tag .ok (fun _ => []) s (fun w =>
            w.warn.map = m ∧ (∀ e, e ∈ w.warn.active ++ w.warn.queue → e.cls = m[s.warn.defs[e.defn].severity]) ∧
            w.warn.defs = s.warn.defs ∧ w.warn.trigger = s.warn.trigger ∧ w.warn.fedFlag = s.warn.fedFlag ∧
            w.warn.marker = s.warn.marker ∧ w.offLinks = { u with warn := w.warn, out := w.out }.offLinks)))) ∧
    (∀ (l : LinkId) (mask : Byte) (interval : Half) (first count : Byte), Admits l s →
      (mask.getLsbD 7 = true → interval.toNat < 100 ∨ 5000 < interval.toNat ∨ 39 < first.toNat ∨ count = 0#8 ∨ 29 < count.toNat →
        RepliesWith (.reportSet l tag mask interval first count) l 0x2D#8 tag .badArg [] s (s.heard l)) ∧
      (mask.getLsbD 7 = false ∨ (100 ≤ interval.toNat ∧ interval.toNat ≤ 5000 ∧ first.toNat ≤ 39 ∧ 1 ≤ count.toNat ∧
          count.toNat ≤ 29) → ∃ t, exec (.reportSet l tag mask interval first count) s = .next t ∧
        t.offLinks = (s.heard l).offLinks ∧
        t.outgoing l = s.outgoing l ++
          [replyFrame 0x2D#8 tag .ok ([mask] ++ put2 interval.toNat ++ [first, count]) false] ∧
        (∀ i : Fin 8, (t.link l).enabled[i] = mask.getLsbD i.val) ∧
        (∀ i : Fin 8, (t.link l).flag[i] =
          (mask.getLsbD i.val && ((s.link l).flag[i] || !(s.link l).enabled[i]))) ∧
        (t.link l).window = (if mask.getLsbD 7 then
          some { interval := interval.toNat, first := first.toNat, count := count.toNat } else (s.link l).window) ∧
        (t.link l).period = (if mask.getLsbD 7 then some 0 else none) ∧
        (∀ k, k ≠ l → (t.link k).settings = (s.link k).settings)))
end

