-- ==== Sys2Proof/Laws/State.lean ====
section
/-!
SUPPORT. One lemma per field per named update of the state, each true by definition, so that no later proof unfolds a
record update.
-/

namespace Sys2Proof.Machine

/-! ### State.modLink -/

@[simp] theorem State.modLink_powered (s : State) (l : LinkId) (f : Link → Link) : (s.modLink l f).powered = s.powered := rfl
@[simp] theorem State.modLink_timebase (s : State) (l : LinkId) (f : Link → Link) : (s.modLink l f).timebase = s.timebase := rfl
@[simp] theorem State.modLink_freeCount (s : State) (l : LinkId) (f : Link → Link) : (s.modLink l f).freeCount = s.freeCount := rfl
@[simp] theorem State.modLink_eeprom (s : State) (l : LinkId) (f : Link → Link) : (s.modLink l f).eeprom = s.eeprom := rfl
@[simp] theorem State.modLink_sig (s : State) (l : LinkId) (f : Link → Link) : (s.modLink l f).sig = s.sig := rfl
@[simp] theorem State.modLink_speed (s : State) (l : LinkId) (f : Link → Link) : (s.modLink l f).speed = s.speed := rfl
@[simp] theorem State.modLink_gauges (s : State) (l : LinkId) (f : Link → Link) : (s.modLink l f).gauges = s.gauges := rfl
@[simp] theorem State.modLink_doors (s : State) (l : LinkId) (f : Link → Link) : (s.modLink l f).doors = s.doors := rfl
@[simp] theorem State.modLink_warn (s : State) (l : LinkId) (f : Link → Link) : (s.modLink l f).warn = s.warn := rfl
@[simp] theorem State.modLink_out (s : State) (l : LinkId) (f : Link → Link) : (s.modLink l f).out = s.out := rfl
@[simp] theorem State.modLink_fault (s : State) (l : LinkId) (f : Link → Link) : (s.modLink l f).fault = s.fault := rfl
@[simp] theorem State.modLink_svc (s : State) (l : LinkId) (f : Link → Link) : (s.modLink l f).svc = s.svc := rfl
@[simp] theorem State.modLink_store (s : State) (l : LinkId) (f : Link → Link) : (s.modLink l f).store = s.store := rfl
@[simp] theorem State.modLink_power (s : State) (l : LinkId) (f : Link → Link) : (s.modLink l f).power = s.power := rfl
@[simp] theorem State.modLink_pending (s : State) (l : LinkId) (f : Link → Link) : (s.modLink l f).pending = s.pending := rfl

/-! ### State.modLamp -/

@[simp] theorem State.modLamp_powered (s : State) (l : Fin 16) (f : Lamp → Lamp) : (s.modLamp l f).powered = s.powered := rfl
@[simp] theorem State.modLamp_timebase (s : State) (l : Fin 16) (f : Lamp → Lamp) : (s.modLamp l f).timebase = s.timebase := rfl
@[simp] theorem State.modLamp_freeCount (s : State) (l : Fin 16) (f : Lamp → Lamp) : (s.modLamp l f).freeCount = s.freeCount := rfl
@[simp] theorem State.modLamp_eeprom (s : State) (l : Fin 16) (f : Lamp → Lamp) : (s.modLamp l f).eeprom = s.eeprom := rfl
@[simp] theorem State.modLamp_sig (s : State) (l : Fin 16) (f : Lamp → Lamp) : (s.modLamp l f).sig = s.sig := rfl
@[simp] theorem State.modLamp_speed (s : State) (l : Fin 16) (f : Lamp → Lamp) : (s.modLamp l f).speed = s.speed := rfl
@[simp] theorem State.modLamp_gauges (s : State) (l : Fin 16) (f : Lamp → Lamp) : (s.modLamp l f).gauges = s.gauges := rfl
@[simp] theorem State.modLamp_doors (s : State) (l : Fin 16) (f : Lamp → Lamp) : (s.modLamp l f).doors = s.doors := rfl
@[simp] theorem State.modLamp_warn (s : State) (l : Fin 16) (f : Lamp → Lamp) : (s.modLamp l f).warn = s.warn := rfl
@[simp] theorem State.modLamp_fault (s : State) (l : Fin 16) (f : Lamp → Lamp) : (s.modLamp l f).fault = s.fault := rfl
@[simp] theorem State.modLamp_svc (s : State) (l : Fin 16) (f : Lamp → Lamp) : (s.modLamp l f).svc = s.svc := rfl
@[simp] theorem State.modLamp_store (s : State) (l : Fin 16) (f : Lamp → Lamp) : (s.modLamp l f).store = s.store := rfl
@[simp] theorem State.modLamp_power (s : State) (l : Fin 16) (f : Lamp → Lamp) : (s.modLamp l f).power = s.power := rfl
@[simp] theorem State.modLamp_links (s : State) (l : Fin 16) (f : Lamp → Lamp) : (s.modLamp l f).links = s.links := rfl
@[simp] theorem State.modLamp_pending (s : State) (l : Fin 16) (f : Lamp → Lamp) : (s.modLamp l f).pending = s.pending := rfl

/-! ### State.modChime -/

@[simp] theorem State.modChime_powered (s : State) (f : Chime → Chime) : (s.modChime f).powered = s.powered := rfl
@[simp] theorem State.modChime_timebase (s : State) (f : Chime → Chime) : (s.modChime f).timebase = s.timebase := rfl
@[simp] theorem State.modChime_freeCount (s : State) (f : Chime → Chime) : (s.modChime f).freeCount = s.freeCount := rfl
@[simp] theorem State.modChime_eeprom (s : State) (f : Chime → Chime) : (s.modChime f).eeprom = s.eeprom := rfl
@[simp] theorem State.modChime_sig (s : State) (f : Chime → Chime) : (s.modChime f).sig = s.sig := rfl
@[simp] theorem State.modChime_speed (s : State) (f : Chime → Chime) : (s.modChime f).speed = s.speed := rfl
@[simp] theorem State.modChime_gauges (s : State) (f : Chime → Chime) : (s.modChime f).gauges = s.gauges := rfl
@[simp] theorem State.modChime_doors (s : State) (f : Chime → Chime) : (s.modChime f).doors = s.doors := rfl
@[simp] theorem State.modChime_warn (s : State) (f : Chime → Chime) : (s.modChime f).warn = s.warn := rfl
@[simp] theorem State.modChime_fault (s : State) (f : Chime → Chime) : (s.modChime f).fault = s.fault := rfl
@[simp] theorem State.modChime_svc (s : State) (f : Chime → Chime) : (s.modChime f).svc = s.svc := rfl
@[simp] theorem State.modChime_store (s : State) (f : Chime → Chime) : (s.modChime f).store = s.store := rfl
@[simp] theorem State.modChime_power (s : State) (f : Chime → Chime) : (s.modChime f).power = s.power := rfl
@[simp] theorem State.modChime_links (s : State) (f : Chime → Chime) : (s.modChime f).links = s.links := rfl
@[simp] theorem State.modChime_pending (s : State) (f : Chime → Chime) : (s.modChime f).pending = s.pending := rfl

/-! ### State.modDoor -/

@[simp] theorem State.modDoor_powered (s : State) (d : Fin 4) (f : Doorway → Doorway) : (s.modDoor d f).powered = s.powered := rfl
@[simp] theorem State.modDoor_timebase (s : State) (d : Fin 4) (f : Doorway → Doorway) : (s.modDoor d f).timebase = s.timebase := rfl
@[simp] theorem State.modDoor_freeCount (s : State) (d : Fin 4) (f : Doorway → Doorway) : (s.modDoor d f).freeCount = s.freeCount := rfl
@[simp] theorem State.modDoor_eeprom (s : State) (d : Fin 4) (f : Doorway → Doorway) : (s.modDoor d f).eeprom = s.eeprom := rfl
@[simp] theorem State.modDoor_sig (s : State) (d : Fin 4) (f : Doorway → Doorway) : (s.modDoor d f).sig = s.sig := rfl
@[simp] theorem State.modDoor_speed (s : State) (d : Fin 4) (f : Doorway → Doorway) : (s.modDoor d f).speed = s.speed := rfl
@[simp] theorem State.modDoor_gauges (s : State) (d : Fin 4) (f : Doorway → Doorway) : (s.modDoor d f).gauges = s.gauges := rfl
@[simp] theorem State.modDoor_warn (s : State) (d : Fin 4) (f : Doorway → Doorway) : (s.modDoor d f).warn = s.warn := rfl
@[simp] theorem State.modDoor_out (s : State) (d : Fin 4) (f : Doorway → Doorway) : (s.modDoor d f).out = s.out := rfl
@[simp] theorem State.modDoor_fault (s : State) (d : Fin 4) (f : Doorway → Doorway) : (s.modDoor d f).fault = s.fault := rfl
@[simp] theorem State.modDoor_svc (s : State) (d : Fin 4) (f : Doorway → Doorway) : (s.modDoor d f).svc = s.svc := rfl
@[simp] theorem State.modDoor_store (s : State) (d : Fin 4) (f : Doorway → Doorway) : (s.modDoor d f).store = s.store := rfl
@[simp] theorem State.modDoor_power (s : State) (d : Fin 4) (f : Doorway → Doorway) : (s.modDoor d f).power = s.power := rfl
@[simp] theorem State.modDoor_links (s : State) (d : Fin 4) (f : Doorway → Doorway) : (s.modDoor d f).links = s.links := rfl
@[simp] theorem State.modDoor_pending (s : State) (d : Fin 4) (f : Doorway → Doorway) : (s.modDoor d f).pending = s.pending := rfl

/-! ### State.modChan -/

@[simp] theorem State.modChan_powered (s : State) (i : Fin 40) (f : Channel → Channel) : (s.modChan i f).powered = s.powered := rfl
@[simp] theorem State.modChan_timebase (s : State) (i : Fin 40) (f : Channel → Channel) : (s.modChan i f).timebase = s.timebase := rfl
@[simp] theorem State.modChan_freeCount (s : State) (i : Fin 40) (f : Channel → Channel) : (s.modChan i f).freeCount = s.freeCount := rfl
@[simp] theorem State.modChan_eeprom (s : State) (i : Fin 40) (f : Channel → Channel) : (s.modChan i f).eeprom = s.eeprom := rfl
@[simp] theorem State.modChan_speed (s : State) (i : Fin 40) (f : Channel → Channel) : (s.modChan i f).speed = s.speed := rfl
@[simp] theorem State.modChan_gauges (s : State) (i : Fin 40) (f : Channel → Channel) : (s.modChan i f).gauges = s.gauges := rfl
@[simp] theorem State.modChan_doors (s : State) (i : Fin 40) (f : Channel → Channel) : (s.modChan i f).doors = s.doors := rfl
@[simp] theorem State.modChan_warn (s : State) (i : Fin 40) (f : Channel → Channel) : (s.modChan i f).warn = s.warn := rfl
@[simp] theorem State.modChan_out (s : State) (i : Fin 40) (f : Channel → Channel) : (s.modChan i f).out = s.out := rfl
@[simp] theorem State.modChan_fault (s : State) (i : Fin 40) (f : Channel → Channel) : (s.modChan i f).fault = s.fault := rfl
@[simp] theorem State.modChan_svc (s : State) (i : Fin 40) (f : Channel → Channel) : (s.modChan i f).svc = s.svc := rfl
@[simp] theorem State.modChan_store (s : State) (i : Fin 40) (f : Channel → Channel) : (s.modChan i f).store = s.store := rfl
@[simp] theorem State.modChan_power (s : State) (i : Fin 40) (f : Channel → Channel) : (s.modChan i f).power = s.power := rfl
@[simp] theorem State.modChan_links (s : State) (i : Fin 40) (f : Channel → Channel) : (s.modChan i f).links = s.links := rfl
@[simp] theorem State.modChan_pending (s : State) (i : Fin 40) (f : Channel → Channel) : (s.modChan i f).pending = s.pending := rfl

/-! ### State.modGauge -/

@[simp] theorem State.modGauge_powered (s : State) (g : Fin 6) (f : Gauge → Gauge) : (s.modGauge g f).powered = s.powered := rfl
@[simp] theorem State.modGauge_timebase (s : State) (g : Fin 6) (f : Gauge → Gauge) : (s.modGauge g f).timebase = s.timebase := rfl
@[simp] theorem State.modGauge_freeCount (s : State) (g : Fin 6) (f : Gauge → Gauge) : (s.modGauge g f).freeCount = s.freeCount := rfl
@[simp] theorem State.modGauge_eeprom (s : State) (g : Fin 6) (f : Gauge → Gauge) : (s.modGauge g f).eeprom = s.eeprom := rfl
@[simp] theorem State.modGauge_sig (s : State) (g : Fin 6) (f : Gauge → Gauge) : (s.modGauge g f).sig = s.sig := rfl
@[simp] theorem State.modGauge_speed (s : State) (g : Fin 6) (f : Gauge → Gauge) : (s.modGauge g f).speed = s.speed := rfl
@[simp] theorem State.modGauge_doors (s : State) (g : Fin 6) (f : Gauge → Gauge) : (s.modGauge g f).doors = s.doors := rfl
@[simp] theorem State.modGauge_warn (s : State) (g : Fin 6) (f : Gauge → Gauge) : (s.modGauge g f).warn = s.warn := rfl
@[simp] theorem State.modGauge_out (s : State) (g : Fin 6) (f : Gauge → Gauge) : (s.modGauge g f).out = s.out := rfl
@[simp] theorem State.modGauge_fault (s : State) (g : Fin 6) (f : Gauge → Gauge) : (s.modGauge g f).fault = s.fault := rfl
@[simp] theorem State.modGauge_svc (s : State) (g : Fin 6) (f : Gauge → Gauge) : (s.modGauge g f).svc = s.svc := rfl
@[simp] theorem State.modGauge_store (s : State) (g : Fin 6) (f : Gauge → Gauge) : (s.modGauge g f).store = s.store := rfl
@[simp] theorem State.modGauge_power (s : State) (g : Fin 6) (f : Gauge → Gauge) : (s.modGauge g f).power = s.power := rfl
@[simp] theorem State.modGauge_links (s : State) (g : Fin 6) (f : Gauge → Gauge) : (s.modGauge g f).links = s.links := rfl
@[simp] theorem State.modGauge_pending (s : State) (g : Fin 6) (f : Gauge → Gauge) : (s.modGauge g f).pending = s.pending := rfl

/-! ### State.modGauges -/

@[simp] theorem State.modGauges_powered (s : State) (f : Gauge → Gauge) : (s.modGauges f).powered = s.powered := rfl
@[simp] theorem State.modGauges_timebase (s : State) (f : Gauge → Gauge) : (s.modGauges f).timebase = s.timebase := rfl
@[simp] theorem State.modGauges_freeCount (s : State) (f : Gauge → Gauge) : (s.modGauges f).freeCount = s.freeCount := rfl
@[simp] theorem State.modGauges_eeprom (s : State) (f : Gauge → Gauge) : (s.modGauges f).eeprom = s.eeprom := rfl
@[simp] theorem State.modGauges_sig (s : State) (f : Gauge → Gauge) : (s.modGauges f).sig = s.sig := rfl
@[simp] theorem State.modGauges_speed (s : State) (f : Gauge → Gauge) : (s.modGauges f).speed = s.speed := rfl
@[simp] theorem State.modGauges_doors (s : State) (f : Gauge → Gauge) : (s.modGauges f).doors = s.doors := rfl
@[simp] theorem State.modGauges_warn (s : State) (f : Gauge → Gauge) : (s.modGauges f).warn = s.warn := rfl
@[simp] theorem State.modGauges_out (s : State) (f : Gauge → Gauge) : (s.modGauges f).out = s.out := rfl
@[simp] theorem State.modGauges_fault (s : State) (f : Gauge → Gauge) : (s.modGauges f).fault = s.fault := rfl
@[simp] theorem State.modGauges_svc (s : State) (f : Gauge → Gauge) : (s.modGauges f).svc = s.svc := rfl
@[simp] theorem State.modGauges_store (s : State) (f : Gauge → Gauge) : (s.modGauges f).store = s.store := rfl
@[simp] theorem State.modGauges_power (s : State) (f : Gauge → Gauge) : (s.modGauges f).power = s.power := rfl
@[simp] theorem State.modGauges_links (s : State) (f : Gauge → Gauge) : (s.modGauges f).links = s.links := rfl
@[simp] theorem State.modGauges_pending (s : State) (f : Gauge → Gauge) : (s.modGauges f).pending = s.pending := rfl

/-! ### State.modWarn -/

@[simp] theorem State.modWarn_powered (s : State) (f : WarningManager → WarningManager) : (s.modWarn f).powered = s.powered := rfl
@[simp] theorem State.modWarn_timebase (s : State) (f : WarningManager → WarningManager) : (s.modWarn f).timebase = s.timebase := rfl
@[simp] theorem State.modWarn_freeCount (s : State) (f : WarningManager → WarningManager) : (s.modWarn f).freeCount = s.freeCount := rfl
@[simp] theorem State.modWarn_eeprom (s : State) (f : WarningManager → WarningManager) : (s.modWarn f).eeprom = s.eeprom := rfl
@[simp] theorem State.modWarn_sig (s : State) (f : WarningManager → WarningManager) : (s.modWarn f).sig = s.sig := rfl
@[simp] theorem State.modWarn_speed (s : State) (f : WarningManager → WarningManager) : (s.modWarn f).speed = s.speed := rfl
@[simp] theorem State.modWarn_gauges (s : State) (f : WarningManager → WarningManager) : (s.modWarn f).gauges = s.gauges := rfl
@[simp] theorem State.modWarn_doors (s : State) (f : WarningManager → WarningManager) : (s.modWarn f).doors = s.doors := rfl
@[simp] theorem State.modWarn_out (s : State) (f : WarningManager → WarningManager) : (s.modWarn f).out = s.out := rfl
@[simp] theorem State.modWarn_fault (s : State) (f : WarningManager → WarningManager) : (s.modWarn f).fault = s.fault := rfl
@[simp] theorem State.modWarn_svc (s : State) (f : WarningManager → WarningManager) : (s.modWarn f).svc = s.svc := rfl
@[simp] theorem State.modWarn_store (s : State) (f : WarningManager → WarningManager) : (s.modWarn f).store = s.store := rfl
@[simp] theorem State.modWarn_power (s : State) (f : WarningManager → WarningManager) : (s.modWarn f).power = s.power := rfl
@[simp] theorem State.modWarn_links (s : State) (f : WarningManager → WarningManager) : (s.modWarn f).links = s.links := rfl
@[simp] theorem State.modWarn_pending (s : State) (f : WarningManager → WarningManager) : (s.modWarn f).pending = s.pending := rfl

/-! ### State.modPower -/

@[simp] theorem State.modPower_powered (s : State) (f : PowerController → PowerController) : (s.modPower f).powered = s.powered := rfl
@[simp] theorem State.modPower_timebase (s : State) (f : PowerController → PowerController) : (s.modPower f).timebase = s.timebase := rfl
@[simp] theorem State.modPower_freeCount (s : State) (f : PowerController → PowerController) : (s.modPower f).freeCount = s.freeCount := rfl
@[simp] theorem State.modPower_eeprom (s : State) (f : PowerController → PowerController) : (s.modPower f).eeprom = s.eeprom := rfl
@[simp] theorem State.modPower_sig (s : State) (f : PowerController → PowerController) : (s.modPower f).sig = s.sig := rfl
@[simp] theorem State.modPower_speed (s : State) (f : PowerController → PowerController) : (s.modPower f).speed = s.speed := rfl
@[simp] theorem State.modPower_gauges (s : State) (f : PowerController → PowerController) : (s.modPower f).gauges = s.gauges := rfl
@[simp] theorem State.modPower_doors (s : State) (f : PowerController → PowerController) : (s.modPower f).doors = s.doors := rfl
@[simp] theorem State.modPower_warn (s : State) (f : PowerController → PowerController) : (s.modPower f).warn = s.warn := rfl
@[simp] theorem State.modPower_out (s : State) (f : PowerController → PowerController) : (s.modPower f).out = s.out := rfl
@[simp] theorem State.modPower_fault (s : State) (f : PowerController → PowerController) : (s.modPower f).fault = s.fault := rfl
@[simp] theorem State.modPower_svc (s : State) (f : PowerController → PowerController) : (s.modPower f).svc = s.svc := rfl
@[simp] theorem State.modPower_store (s : State) (f : PowerController → PowerController) : (s.modPower f).store = s.store := rfl
@[simp] theorem State.modPower_links (s : State) (f : PowerController → PowerController) : (s.modPower f).links = s.links := rfl
@[simp] theorem State.modPower_pending (s : State) (f : PowerController → PowerController) : (s.modPower f).pending = s.pending := rfl

/-! ### raiseTopic -/

@[simp] theorem raiseTopic_powered (s : State) (t : Topic) : (raiseTopic t s).powered = s.powered := rfl
@[simp] theorem raiseTopic_timebase (s : State) (t : Topic) : (raiseTopic t s).timebase = s.timebase := rfl
@[simp] theorem raiseTopic_freeCount (s : State) (t : Topic) : (raiseTopic t s).freeCount = s.freeCount := rfl
@[simp] theorem raiseTopic_eeprom (s : State) (t : Topic) : (raiseTopic t s).eeprom = s.eeprom := rfl
@[simp] theorem raiseTopic_sig (s : State) (t : Topic) : (raiseTopic t s).sig = s.sig := rfl
@[simp] theorem raiseTopic_speed (s : State) (t : Topic) : (raiseTopic t s).speed = s.speed := rfl
@[simp] theorem raiseTopic_gauges (s : State) (t : Topic) : (raiseTopic t s).gauges = s.gauges := rfl
@[simp] theorem raiseTopic_doors (s : State) (t : Topic) : (raiseTopic t s).doors = s.doors := rfl
@[simp] theorem raiseTopic_warn (s : State) (t : Topic) : (raiseTopic t s).warn = s.warn := rfl
@[simp] theorem raiseTopic_out (s : State) (t : Topic) : (raiseTopic t s).out = s.out := rfl
@[simp] theorem raiseTopic_fault (s : State) (t : Topic) : (raiseTopic t s).fault = s.fault := rfl
@[simp] theorem raiseTopic_svc (s : State) (t : Topic) : (raiseTopic t s).svc = s.svc := rfl
@[simp] theorem raiseTopic_store (s : State) (t : Topic) : (raiseTopic t s).store = s.store := rfl
@[simp] theorem raiseTopic_power (s : State) (t : Topic) : (raiseTopic t s).power = s.power := rfl
@[simp] theorem raiseTopic_pending (s : State) (t : Topic) : (raiseTopic t s).pending = s.pending := rfl

/-! ### placeReply -/

@[simp] theorem placeReply_powered (s : State) (l : LinkId) (f : Frame) : (placeReply l f s).powered = s.powered := rfl
@[simp] theorem placeReply_timebase (s : State) (l : LinkId) (f : Frame) : (placeReply l f s).timebase = s.timebase := rfl
@[simp] theorem placeReply_freeCount (s : State) (l : LinkId) (f : Frame) : (placeReply l f s).freeCount = s.freeCount := rfl
@[simp] theorem placeReply_eeprom (s : State) (l : LinkId) (f : Frame) : (placeReply l f s).eeprom = s.eeprom := rfl
@[simp] theorem placeReply_sig (s : State) (l : LinkId) (f : Frame) : (placeReply l f s).sig = s.sig := rfl
@[simp] theorem placeReply_speed (s : State) (l : LinkId) (f : Frame) : (placeReply l f s).speed = s.speed := rfl
@[simp] theorem placeReply_gauges (s : State) (l : LinkId) (f : Frame) : (placeReply l f s).gauges = s.gauges := rfl
@[simp] theorem placeReply_doors (s : State) (l : LinkId) (f : Frame) : (placeReply l f s).doors = s.doors := rfl
@[simp] theorem placeReply_warn (s : State) (l : LinkId) (f : Frame) : (placeReply l f s).warn = s.warn := rfl
@[simp] theorem placeReply_out (s : State) (l : LinkId) (f : Frame) : (placeReply l f s).out = s.out := rfl
@[simp] theorem placeReply_fault (s : State) (l : LinkId) (f : Frame) : (placeReply l f s).fault = s.fault := rfl
@[simp] theorem placeReply_svc (s : State) (l : LinkId) (f : Frame) : (placeReply l f s).svc = s.svc := rfl
@[simp] theorem placeReply_store (s : State) (l : LinkId) (f : Frame) : (placeReply l f s).store = s.store := rfl
@[simp] theorem placeReply_power (s : State) (l : LinkId) (f : Frame) : (placeReply l f s).power = s.power := rfl
@[simp] theorem placeReply_pending (s : State) (l : LinkId) (f : Frame) : (placeReply l f s).pending = s.pending := rfl

/-! ### fly -/

@[simp] theorem fly_powered (s : State) (a : Access) : (fly a s).powered = s.powered := rfl
@[simp] theorem fly_timebase (s : State) (a : Access) : (fly a s).timebase = s.timebase := rfl
@[simp] theorem fly_freeCount (s : State) (a : Access) : (fly a s).freeCount = s.freeCount := rfl
@[simp] theorem fly_eeprom (s : State) (a : Access) : (fly a s).eeprom = s.eeprom := rfl
@[simp] theorem fly_sig (s : State) (a : Access) : (fly a s).sig = s.sig := rfl
@[simp] theorem fly_speed (s : State) (a : Access) : (fly a s).speed = s.speed := rfl
@[simp] theorem fly_gauges (s : State) (a : Access) : (fly a s).gauges = s.gauges := rfl
@[simp] theorem fly_doors (s : State) (a : Access) : (fly a s).doors = s.doors := rfl
@[simp] theorem fly_warn (s : State) (a : Access) : (fly a s).warn = s.warn := rfl
@[simp] theorem fly_out (s : State) (a : Access) : (fly a s).out = s.out := rfl
@[simp] theorem fly_fault (s : State) (a : Access) : (fly a s).fault = s.fault := rfl
@[simp] theorem fly_svc (s : State) (a : Access) : (fly a s).svc = s.svc := rfl
@[simp] theorem fly_power (s : State) (a : Access) : (fly a s).power = s.power := rfl
@[simp] theorem fly_links (s : State) (a : Access) : (fly a s).links = s.links := rfl
@[simp] theorem fly_pending (s : State) (a : Access) : (fly a s).pending = s.pending := rfl

/-! ### State.offLinks -/

@[simp] theorem State.offLinks_powered (s : State) : (s.offLinks).powered = s.powered := rfl
@[simp] theorem State.offLinks_timebase (s : State) : (s.offLinks).timebase = s.timebase := rfl
@[simp] theorem State.offLinks_freeCount (s : State) : (s.offLinks).freeCount = s.freeCount := rfl
@[simp] theorem State.offLinks_eeprom (s : State) : (s.offLinks).eeprom = s.eeprom := rfl
@[simp] theorem State.offLinks_sig (s : State) : (s.offLinks).sig = s.sig := rfl
@[simp] theorem State.offLinks_speed (s : State) : (s.offLinks).speed = s.speed := rfl
@[simp] theorem State.offLinks_gauges (s : State) : (s.offLinks).gauges = s.gauges := rfl
@[simp] theorem State.offLinks_doors (s : State) : (s.offLinks).doors = s.doors := rfl
@[simp] theorem State.offLinks_warn (s : State) : (s.offLinks).warn = s.warn := rfl
@[simp] theorem State.offLinks_out (s : State) : (s.offLinks).out = s.out := rfl
@[simp] theorem State.offLinks_fault (s : State) : (s.offLinks).fault = s.fault := rfl
@[simp] theorem State.offLinks_svc (s : State) : (s.offLinks).svc = s.svc := rfl
@[simp] theorem State.offLinks_store (s : State) : (s.offLinks).store = s.store := rfl
@[simp] theorem State.offLinks_power (s : State) : (s.offLinks).power = s.power := rfl
@[simp] theorem State.offLinks_pending (s : State) : (s.offLinks).pending = s.pending := rfl

/-! ### What the updates write -/

@[simp] theorem State.modWarn_warn (s : State) (f : WarningManager → WarningManager) : (s.modWarn f).warn = f s.warn := rfl
@[simp] theorem State.modPower_power (s : State) (f : PowerController → PowerController) :
    (s.modPower f).power = f s.power := rfl
@[simp] theorem State.modChime_chime (s : State) (f : Chime → Chime) : (s.modChime f).out.chime = f s.out.chime := rfl
@[simp] theorem State.modChime_lamp (s : State) (f : Chime → Chime) : (s.modChime f).out.lamp = s.out.lamp := rfl
@[simp] theorem State.modLamp_chime (s : State) (l : Fin 16) (f : Lamp → Lamp) : (s.modLamp l f).out.chime = s.out.chime := rfl
@[simp] theorem fly_inFlight (s : State) (a : Access) : (fly a s).store.inFlight = some a := rfl
@[simp] theorem fly_waiting (s : State) (a : Access) : (fly a s).store.waiting = s.store.waiting := rfl
@[simp] theorem fly_staging (s : State) (a : Access) : (fly a s).store.staging = s.store.staging := rfl
@[simp] theorem fly_cfgState (s : State) (a : Access) : (fly a s).store.cfgState = s.store.cfgState := rfl

/-- One element of a collection after `upd`. -/
@[simp] theorem upd_getElem {α : Type} {n : Nat} (v : Vector α n) (i : Fin n) (f : α → α) (j : Nat) (h : j < n) :
    (upd v i f)[j] = if i.val = j then f v[i.val] else v[j] := by
  simp [upd, Vector.getElem_set]

@[simp] theorem updAll_getElem {α : Type} {n : Nat} (v : Vector α n) (f : Fin n → α → α) (j : Nat) (h : j < n) :
    (updAll v f)[j] = f ⟨j, h⟩ v[j] := by
  simp [updAll]

@[simp] theorem answerNow_state (st : Status) (fields : List Byte) (s : State) : (answerNow st fields s).state = s := rfl
@[simp] theorem answerNow_answer (st : Status) (fields : List Byte) (s : State) :
    (answerNow st fields s).answer = .now st fields false := rfl
@[simp] theorem refuse_state (st : Status) (s : State) : (refuse st s).state = s := rfl
@[simp] theorem refuse_answer (st : Status) (s : State) : (refuse st s).answer = .now st [] false := rfl

/-! ### One link's record -/

@[simp] theorem State.modLink_same (s : State) (l : LinkId) (f : Link → Link) : (s.modLink l f).link l = f (s.link l) := by
  cases l <;> rfl

theorem State.modLink_other (s : State) {l k : LinkId} (f : Link → Link) (h : k ≠ l) :
    (s.modLink l f).link k = s.link k := by
  cases l <;> cases k <;> first | rfl | exact absurd rfl h

theorem State.modLink_link (s : State) (l k : LinkId) (f : Link → Link) :
    (s.modLink l f).link k = if k = l then f (s.link l) else s.link k := by
  cases l <;> cases k <;> rfl

@[simp] theorem raiseTopic_link (s : State) (t : Topic) (l : LinkId) : (raiseTopic t s).link l = (s.link l).raise t := by
  cases l <;> rfl

end Sys2Proof.Machine
end

