-- ==== Sys2Proof/Laws/Memory.lean ====
section
/-!
SUPPORT. The laws of `Mem`: every operation keeps the canonical form, a read after a write gives the byte written, and a
write leaves every other address alone.
-/

namespace Sys2Proof.Machine

theorem Mem.wfFrom_mono {d : Byte} {low low' : Nat} (h : low' ≤ low) : {m : Mem} → Mem.wfFrom d low m = true →
    Mem.wfFrom d low' m = true
  | [], _ => rfl
  | (a, v) :: m, hm => by
    simp only [Mem.wfFrom, Bool.and_eq_true, decide_eq_true_eq] at hm ⊢
    exact ⟨⟨Nat.le_trans h hm.1.1, hm.1.2⟩, hm.2⟩

theorem Mem.consCell_wfFrom {d : Byte} {low a : Nat} (v : Byte) {m : Mem} (ha : low ≤ a)
    (hm : Mem.wfFrom d (a + 1) m = true) : Mem.wfFrom d low (Mem.consCell d a v m) = true := by
  unfold Mem.consCell
  split
  · exact Mem.wfFrom_mono (by omega) hm
  · next h => simp [Mem.wfFrom, ha, hm, h]

theorem Mem.write_wfFrom {d : Byte} {low : Nat} (a : Nat) (v : Byte) (ha : low ≤ a) : {m : Mem} →
    Mem.wfFrom d low m = true → Mem.wfFrom d low (Mem.write d m a v) = true
  | [], _ => Mem.consCell_wfFrom v ha rfl
  | (b, w) :: m, hm => by
    have hm' := hm
    simp only [Mem.wfFrom, Bool.and_eq_true, decide_eq_true_eq] at hm
    unfold Mem.write
    split
    · exact Mem.consCell_wfFrom v ha (by simp [Mem.wfFrom, hm.1.2, hm.2]; omega)
    · split
      · exact Mem.consCell_wfFrom v ha (by subst a; exact hm.2)
      · simp only [Mem.wfFrom, Bool.and_eq_true, decide_eq_true_eq]
        exact ⟨hm.1, Mem.write_wfFrom a v (by omega) hm.2⟩

/-- A write keeps the canonical form. -/
theorem Mem.write_wf {d : Byte} {m : Mem} (a : Nat) (v : Byte) (h : Mem.wf d m = true) :
    Mem.wf d (Mem.write d m a v) = true := Mem.write_wfFrom a v (Nat.zero_le a) h

/-- A write of several bytes keeps the canonical form. -/
theorem Mem.writeBytes_wf {d : Byte} : {m : Mem} → (a : Nat) → (vs : List Byte) → Mem.wf d m = true →
    Mem.wf d (Mem.writeBytes d m a vs) = true
  | _, _, [], h => h
  | _, a, v :: vs, h => Mem.writeBytes_wf (a + 1) vs (Mem.write_wf a v h)

/-- A cut write keeps the canonical form, whatever the free value says. -/
theorem tornBytes_wf (draw : Nat) : {m : Mem} → (a : Nat) → (vs : List Byte) → Mem.wf erased m = true →
    Mem.wf erased (tornBytes draw m a vs) = true
  | _, _, [], h => h
  | _, a, v :: vs, h => by
    unfold tornBytes
    split
    · exact tornBytes_wf draw (a + 1) vs (Mem.write_wf a v h)
    · exact tornBytes_wf draw (a + 1) vs h

theorem Mem.ofBytes_wfFrom {d : Byte} : (a : Nat) → (vs : List Byte) → Mem.wfFrom d a (Mem.ofBytes d a vs) = true
  | _, [] => rfl
  | a, v :: vs => Mem.consCell_wfFrom v (Nat.le_refl a) (Mem.ofBytes_wfFrom (a + 1) vs)

/-- A memory made from bytes is canonical. -/
theorem Mem.ofBytes_wf {d : Byte} (a : Nat) (vs : List Byte) : Mem.wf d (Mem.ofBytes d a vs) = true :=
  Mem.wfFrom_mono (Nat.zero_le a) (Mem.ofBytes_wfFrom a vs)

/-- Below its first address a canonical memory reads its default. -/
theorem Mem.read_below {d : Byte} {low a : Nat} (ha : a < low) : {m : Mem} → Mem.wfFrom d low m = true →
    Mem.read d m a = d
  | [], _ => rfl
  | (b, v) :: m, hm => by
    simp only [Mem.wfFrom, Bool.and_eq_true, decide_eq_true_eq] at hm
    simp only [Mem.read]
    rw [if_neg (by omega), if_pos (by omega)]

theorem Mem.read_consCell {d : Byte} {b : Nat} (v : Byte) {m : Mem} (hm : Mem.wfFrom d (b + 1) m = true) (a : Nat) :
    Mem.read d (Mem.consCell d b v m) a = if a = b then v else if a < b then d else Mem.read d m a := by
  unfold Mem.consCell
  split
  · next h =>
    split
    · next e => rw [Mem.read_below (by omega) hm, h]
    · split
      · exact Mem.read_below (by omega) hm
      · rfl
  · rfl

/-- A read after a write: the byte written at its address, every other address as before. -/
theorem Mem.read_write {d : Byte} (a : Nat) (v : Byte) (x : Nat) : {low : Nat} → {m : Mem} →
    Mem.wfFrom d low m = true → Mem.read d (Mem.write d m a v) x = if x = a then v else Mem.read d m x
  | _, [], _ => by
    have := Mem.read_consCell (d := d) (b := a) v (m := []) rfl x
    simp only [Mem.write, this]
    split
    · rfl
    · split <;> rfl
  | low, (b, w) :: m, hm => by
    have hm' := hm
    simp only [Mem.wfFrom, Bool.and_eq_true, decide_eq_true_eq] at hm
    unfold Mem.write
    split
    · next hab =>
      rw [Mem.read_consCell v (by simp [Mem.wfFrom, hm.1.2, hm.2]; omega) x]
      split
      · rfl
      · next hx =>
        split
        · next hlt => exact (Mem.read_below (low := b) (by omega) (by simp [Mem.wfFrom, hm.1.2, hm.2])).symm
        · rfl
    · split
      · next hab heq =>
        subst heq
        rw [Mem.read_consCell v hm.2 x]
        simp only [Mem.read]
        split <;> rfl
      · next hab hne =>
        simp only [Mem.read]
        rw [Mem.read_write a v x hm.2]
        split
        · next hx => rw [if_neg (by omega)]
        · split
          · rw [if_neg (by omega)]
          · rfl

/-- A read after a write of several bytes. -/
theorem Mem.read_writeBytes {d : Byte} : (vs : List Byte) → (m : Mem) → (a x : Nat) → Mem.wf d m = true →
    Mem.read d (Mem.writeBytes d m a vs) x =
      if a ≤ x ∧ x < a + vs.length then vs.getD (x - a) d else Mem.read d m x
  | [], m, a, x, _ => by rw [if_neg (by rw [List.length_nil]; omega), Mem.writeBytes]
  | v :: vs, m, a, x, h => by
    simp only [Mem.writeBytes]
    rw [Mem.read_writeBytes vs _ (a + 1) x (Mem.write_wf a v h), Mem.read_write a v x h]
    simp only [List.length_cons]
    by_cases h1 : x = a
    · subst h1
      rw [if_neg (by omega), if_pos rfl, if_pos (by omega)]
      simp
    · by_cases h2 : a + 1 ≤ x ∧ x < a + 1 + vs.length
      · have h3 : a ≤ x ∧ x < a + (vs.length + 1) := by omega
        rw [if_pos h2, if_pos h3]
        obtain ⟨k, hk⟩ : ∃ k, x - a = k + 1 := ⟨x - a - 1, by omega⟩
        rw [hk, show x - (a + 1) = k by omega]
        rfl
      · have h3 : ¬(a ≤ x ∧ x < a + (vs.length + 1)) := by omega
        rw [if_neg h2, if_neg h3, if_neg h1]

/-- Each byte of a cut write is old or new, and no other byte changes (R184, R185). -/
theorem tornBytes_read (draw : Nat) : (vs : List Byte) → (m : Mem) → (a x : Nat) → Mem.wf erased m = true →
    Mem.read erased (tornBytes draw m a vs) x = Mem.read erased m x ∨
      (a ≤ x ∧ x < a + vs.length ∧ Mem.read erased (tornBytes draw m a vs) x = vs.getD (x - a) erased)
  | [], _, _, _, _ => .inl rfl
  | v :: vs, m, a, x, h => by
    unfold tornBytes
    have key : ∀ m' : Mem, Mem.wf erased m' = true → (x = a → m' = Mem.write erased m a v ∨ m' = m) →
        (x ≠ a → Mem.read erased m' x = Mem.read erased m x) →
        Mem.read erased (tornBytes draw m' (a + 1) vs) x = Mem.read erased m x ∨
          (a ≤ x ∧ x < a + (v :: vs).length ∧
            Mem.read erased (tornBytes draw m' (a + 1) vs) x = (v :: vs).getD (x - a) erased) := by
      intro m' hw hx hne
      rcases tornBytes_read draw vs m' (a + 1) x hw with e | ⟨l, u, e⟩
      · by_cases hxa : x = a
        · rcases hx hxa with hm | hm
          · right
            refine ⟨by omega, by simp; omega, ?_⟩
            rw [e, hm, Mem.read_write a v x h, if_pos hxa, hxa]
            simp
          · left; rw [e, hm]
        · left; rw [e, hne hxa]
      · right
        refine ⟨by omega, by simp; omega, ?_⟩
        obtain ⟨k, hk⟩ : ∃ k, x - a = k + 1 := ⟨x - a - 1, by omega⟩
        rw [e, hk, show x - (a + 1) = k by omega]
        rfl
    split
    · refine key _ (Mem.write_wf a v h) (fun _ => .inl rfl) (fun hne => ?_)
      rw [Mem.read_write a v x h, if_neg hne]
    · exact key m h (fun _ => .inr rfl) (fun _ => rfl)

/-- The bytes read back. -/
theorem Mem.readBytes_length (d : Byte) (m : Mem) : (n a : Nat) → (Mem.readBytes d m a n).length = n
  | 0, _ => rfl
  | n + 1, a => by simp [Mem.readBytes, Mem.readBytes_length d m n (a + 1)]

end Sys2Proof.Machine
end

