-- ==== Sys2Proof/Laws/Quiet.lean ====
section
/-!
SUPPORT. What the shared operations leave alone, one lemma per operation: the store's content, the staging image, the
queue and the draw counter stay as they are, the service lists stay or are emptied by a close, and every access stays
within its area.
-/

namespace Sys2Proof.Machine

/-- The Service Unit's fields that a close resets. -/
def ServiceUnit.workshop (u : ServiceUnit) : Bool × Option Nat × List (Fin 40 × Nat) × List (OutputId × Setting) :=
  (u.isOpen, u.silence, u.forces, u.overrides)

/-- An operation that writes neither memory, starts no access beyond its area, and opens no service mode. -/
structure Quiet (s t : State) : Prop where
  powered : t.powered = s.powered
  freeCount : t.freeCount = s.freeCount
  eeprom : t.eeprom = s.eeprom
  pending : t.pending = s.pending
  staging : t.store.staging = s.store.staging
  service : t.svc.workshop = s.svc.workshop ∨ t.svc.workshop = (false, none, [], [])
  access : AccessOk s → AccessOk t

theorem Quiet.refl (s : State) : Quiet s s := ⟨rfl, rfl, rfl, rfl, rfl, .inl rfl, id⟩

theorem Quiet.trans {s t u : State} (h : Quiet s t) (k : Quiet t u) : Quiet s u where
  powered := k.powered.trans h.powered
  freeCount := k.freeCount.trans h.freeCount
  eeprom := k.eeprom.trans h.eeprom
  pending := k.pending.trans h.pending
  staging := k.staging.trans h.staging
  service := by
    rcases k.service with e | e
    · rcases h.service with e' | e'
      · exact .inl (e.trans e')
      · exact .inr (e.trans e')
    · exact .inr e
  access := fun a => k.access (h.access a)

/-- The same with an update after it that could only move accesses. -/
theorem Quiet.trans' {s t u : State} (h : Quiet s t) (k : AccessOk s → AccessOk u) (e1 : u.powered = t.powered := by rfl)
    (e2 : u.freeCount = t.freeCount := by rfl) (e3 : u.eeprom = t.eeprom := by rfl) (e4 : u.pending = t.pending := by rfl)
    (e5 : u.store.staging = t.store.staging := by rfl) (e6 : u.svc = t.svc := by rfl) : Quiet s u where
  powered := e1.trans h.powered
  freeCount := e2.trans h.freeCount
  eeprom := e3.trans h.eeprom
  pending := e4.trans h.pending
  staging := e5.trans h.staging
  service := by rw [e6]; exact h.service
  access := k

/-- An update that leaves the memories, the queue, the Service Unit and the Store Controller as they are. -/
theorem Quiet.of_eq {s t : State} (h1 : t.powered = s.powered) (h2 : t.freeCount = s.freeCount)
    (h3 : t.eeprom = s.eeprom) (h4 : t.pending = s.pending) (h5 : t.svc = s.svc) (h6 : t.store = s.store) : Quiet s t where
  powered := h1
  freeCount := h2
  eeprom := h3
  pending := h4
  staging := by rw [h6]
  service := by rw [h5]; exact .inl rfl
  access := by unfold AccessOk; rw [h6]; exact id

/-- The same, for an update of the Store Controller that keeps its staging image, its access in flight and what waits. -/
theorem Quiet.of_store {s t : State} (h1 : t.powered = s.powered) (h2 : t.freeCount = s.freeCount)
    (h3 : t.eeprom = s.eeprom) (h4 : t.pending = s.pending) (h5 : t.svc = s.svc)
    (h6 : t.store.staging = s.store.staging) (h7 : t.store.inFlight = s.store.inFlight)
    (h8 : t.store.waiting = s.store.waiting) : Quiet s t where
  powered := h1
  freeCount := h2
  eeprom := h3
  pending := h4
  staging := h6
  service := by rw [h5]; exact .inl rfl
  access := by unfold AccessOk; rw [h7, h8]; exact id

theorem Quiet.foldl {α : Type} {f : State → α → State} (hf : ∀ s a, Quiet s (f s a)) :
    (as : List α) → (s : State) → Quiet s (as.foldl f s)
  | [], s => .refl s
  | a :: as, s => (hf s a).trans (Quiet.foldl hf as (f s a))

/-! ### Updates -/

theorem raiseTopic_quiet (t : Topic) (s : State) : Quiet s (raiseTopic t s) := .of_eq rfl rfl rfl rfl rfl rfl

theorem topicIf_quiet (d : Bool) (t : Topic) (s : State) : Quiet s (topicIf d t s) := by
  unfold topicIf
  split
  · exact raiseTopic_quiet t s
  · exact .refl s

theorem modLink_quiet (l : LinkId) (f : Link → Link) (s : State) : Quiet s (s.modLink l f) := .of_eq rfl rfl rfl rfl rfl rfl
theorem placeReply_quiet (l : LinkId) (f : Frame) (s : State) : Quiet s (placeReply l f s) := .of_eq rfl rfl rfl rfl rfl rfl
theorem modLamp_quiet (l : Fin 16) (f : Lamp → Lamp) (s : State) : Quiet s (s.modLamp l f) := .of_eq rfl rfl rfl rfl rfl rfl
theorem modChime_quiet (f : Chime → Chime) (s : State) : Quiet s (s.modChime f) := .of_eq rfl rfl rfl rfl rfl rfl
theorem modDoor_quiet (d : Fin 4) (f : Doorway → Doorway) (s : State) : Quiet s (s.modDoor d f) := .of_eq rfl rfl rfl rfl rfl rfl
theorem modChan_quiet (i : Fin 40) (f : Channel → Channel) (s : State) : Quiet s (s.modChan i f) := .of_eq rfl rfl rfl rfl rfl rfl
theorem modGauge_quiet (g : Fin 6) (f : Gauge → Gauge) (s : State) : Quiet s (s.modGauge g f) := .of_eq rfl rfl rfl rfl rfl rfl
theorem modGauges_quiet (f : Gauge → Gauge) (s : State) : Quiet s (s.modGauges f) := .of_eq rfl rfl rfl rfl rfl rfl
theorem modWarn_quiet (f : WarningManager → WarningManager) (s : State) : Quiet s (s.modWarn f) := .of_eq rfl rfl rfl rfl rfl rfl
theorem modPower_quiet (f : PowerController → PowerController) (s : State) : Quiet s (s.modPower f) := .of_eq rfl rfl rfl rfl rfl rfl

theorem answerHeld_quiet (l : LinkId) (st : Status) (fields : List Byte) (r : Bool) (s : State) :
    Quiet s (answerHeld l st fields r s) := by
  unfold answerHeld
  split
  · exact .of_eq rfl rfl rfl rfl rfl rfl
  · exact .refl s

/-! ### Store requesters and accesses -/

theorem addItem_quiet (item : WriterItem) (s : State) : Quiet s (addItem item s) := by
  unfold addItem
  split
  · exact .refl s
  · exact .of_eq rfl rfl rfl rfl rfl rfl

theorem recordPump_quiet (s : State) : Quiet s (recordPump s) := by
  unfold recordPump
  split
  · refine ⟨rfl, rfl, rfl, rfl, rfl, .inl rfl, fun h => ?_⟩
    obtain ⟨a, b, c, d, e, f⟩ := h
    exact ⟨a, b, c, rfl, e, f⟩
  · exact .refl s

theorem withdrawScheduled_quiet (s : State) : Quiet s (withdrawScheduled s) := by
  unfold withdrawScheduled
  split
  · refine ⟨rfl, rfl, rfl, rfl, rfl, .inl rfl, fun h => ?_⟩
    obtain ⟨a, b, c, d, e, f⟩ := h
    refine ⟨a, b, c, ?_, e, f⟩
    dsimp only
    split
    · rfl
    · exact d
  · exact .refl s

theorem withdrawFaultItems_quiet (s : State) : Quiet s (withdrawFaultItems s) := by
  refine ⟨rfl, rfl, rfl, rfl, rfl, .inl rfl, fun h => ?_⟩
  obtain ⟨a, b, c, d, e, f⟩ := h
  refine ⟨a, b, c, ?_, e, f⟩
  dsimp only [withdrawFaultItems]
  split
  · split
    · rfl
    · exact d
  · exact d

theorem beginFaultPart_quiet (s : State) : Quiet s (beginFaultPart s) := by
  unfold beginFaultPart
  split
  · split <;> exact .of_eq rfl rfl rfl rfl rfl rfl
  · exact .refl s

theorem handPark_quiet (p : Purpose) (hp : p.inArea = true) (s : State) : Quiet s
    { s with store := { s.store with waiting := { s.store.waiting with parkFlush := some p } } } := by
  refine ⟨rfl, rfl, rfl, rfl, rfl, .inl rfl, fun h => ?_⟩
  obtain ⟨a, b, c, d, e, f⟩ := h
  exact ⟨a, b, by simp [hp], d, e, f⟩

theorem parkPump_quiet (s : State) : Quiet s (parkPump s) := by
  unfold parkPump
  dsimp only
  refine (beginFaultPart_quiet s).trans ?_
  generalize beginFaultPart s = t
  split
  · exact .refl t
  · split
    · exact handPark_quiet .parkOdo rfl t
    · split
      · split
        · next item rest _ =>
          exact Quiet.trans (t := { t with fault := { t.fault with partItems := rest } })
            (.of_eq rfl rfl rfl rfl rfl rfl) (handPark_quiet (.parkItem item) rfl _)
        · exact .refl t
      · exact .refl t

theorem fly_quiet (a : Access) {s t : State} (q : Quiet s t) (h : AccessOk s → a.inArea = true) : Quiet s (fly a t) := by
  refine q.trans' ?_
  intro k
  obtain ⟨_, b, c, d, e, f⟩ := q.access k
  exact ⟨by simp [h k], b, c, d, e, f⟩

theorem odoAccess_inArea (p : Purpose) (s : State) : (odoAccess p s).inArea = true := by
  have := s.speed.nextSlot.isLt
  simp [odoAccess, newAccess, Access.inArea, Area.size]
  omega

theorem faultItemAccess_inArea (p : Purpose) (item : WriterItem) (s : State) : (faultItemAccess p item s).inArea = true := by
  cases item with
  | odo => exact odoAccess_inArea p s
  | header => simp [faultItemAccess, newAccess, Access.inArea, Area.size]
  | position q =>
    have := q.isLt
    simp [faultItemAccess, newAccess, Access.inArea, Area.size]
    omega

theorem startAccess_quiet (p : Purpose) {s t : State} (q : Quiet s t) (hp : AccessOk s → p.inArea = true) :
    Quiet s (startAccess p t) := by
  have step : ∀ (u : State) (a : Access), a.inArea = true → Quiet t u → Quiet s (fly a u) :=
    fun u a ha hu => fly_quiet a (q.trans hu) (fun _ => ha)
  cases p with
  | preOdo => exact step _ _ (by decide) (.refl t)
  | preFaults => exact step _ _ (by decide) (.refl t)
  | preConfig => exact step _ _ (by decide) (.refl t)
  | parkOdo =>
    simp only [startAccess]
    split
    · exact q.trans (.of_eq rfl rfl rfl rfl rfl rfl)
    · exact step _ _ (odoAccess_inArea _ _) (.of_eq rfl rfl rfl rfl rfl rfl)
  | parkItem item => exact step _ _ (faultItemAccess_inArea _ _ _) (.of_eq rfl rfl rfl rfl rfl rfl)
  | record item =>
    cases item with
    | odo => exact step _ _ (odoAccess_inArea _ _) (.of_eq rfl rfl rfl rfl rfl rfl)
    | header => exact step _ _ (faultItemAccess_inArea _ _ _) (.of_eq rfl rfl rfl rfl rfl rfl)
    | position q => exact step _ _ (faultItemAccess_inArea _ _ _) (.of_eq rfl rfl rfl rfl rfl rfl)
  | linkRead l area offset count => exact fly_quiet _ q hp
  | linkWrite l area offset bytes n => exact fly_quiet _ q hp
  | odoSet => exact step _ _ (odoAccess_inArea _ _) (.refl t)
  | faultClear => exact step _ _ (by simp [newAccess, Access.inArea, Area.size]) (.of_eq rfl rfl rfl rfl rfl rfl)
  | release l n => exact step _ _ (by simp [newAccess, Access.inArea, Area.size]) (.refl t)

theorem takeFirst_quiet {s : State} {p : Purpose} {rest : PendingAccesses}
    (h : s.store.waiting.takeFirst = some (p, rest)) (ha : AccessOk s) :
    p.inArea = true ∧ AccessOk { s with store := { s.store with waiting := rest } } := by
  obtain ⟨a, b, c, d, e, f⟩ := ha
  unfold PendingAccesses.takeFirst at h
  split at h <;> simp only [Option.some.injEq, Prod.mk.injEq, reduceCtorEq] at h <;> obtain ⟨rfl, rfl⟩ := h <;>
    (refine ⟨?_, a, ?_, ?_, ?_, ?_, ?_⟩ <;> simp_all)

theorem storePump_quiet (fuel : Nat) (s : State) : Quiet s (storePump fuel s) := by
  induction fuel generalizing s with
  | zero => exact .refl s
  | succ fuel ih =>
    unfold storePump
    dsimp only
    refine ((parkPump_quiet s).trans (recordPump_quiet (parkPump s))).trans ?_
    generalize recordPump (parkPump s) = t
    split
    · exact .refl t
    · split
      · exact .refl t
      · next p rest hp =>
        have h : Quiet t { t with store := { t.store with waiting := rest } } :=
          ⟨rfl, rfl, rfl, rfl, rfl, .inl rfl, fun ha => (takeFirst_quiet hp ha).2⟩
        have h' := startAccess_quiet p h (fun ha => (takeFirst_quiet hp ha).1)
        split
        · exact h'
        · exact h'.trans (ih _)

theorem handLinkAccess_quiet (l : LinkId) (p : Purpose) (hp : p.inArea = true) (s : State) :
    Quiet s (handLinkAccess l p s) := by
  unfold handLinkAccess
  dsimp only
  refine Quiet.trans ?_ (storePump_quiet _ _)
  refine ⟨rfl, rfl, rfl, rfl, rfl, .inl rfl, fun h => ?_⟩
  obtain ⟨a, b, c, d, e, f⟩ := h
  cases l
  · exact ⟨a, b, c, d, e, by simp [hp]⟩
  · exact ⟨a, b, c, d, by simp [hp], f⟩

theorem requestParkingWrite_quiet (s : State) : Quiet s (requestParkingWrite s) := by
  unfold requestParkingWrite
  split
  · exact .refl s
  · exact .of_eq rfl rfl rfl rfl rfl rfl
  · split
    · exact (withdrawScheduled_quiet s).trans (.of_eq rfl rfl rfl rfl rfl rfl)
    · exact .of_eq rfl rfl rfl rfl rfl rfl

theorem requestFaultFlush_quiet (s : State) : Quiet s (requestFaultFlush s) := by
  unfold requestFaultFlush
  split
  · exact .refl s
  · exact .of_eq rfl rfl rfl rfl rfl rfl
  · split
    · exact (withdrawFaultItems_quiet s).trans (.of_eq rfl rfl rfl rfl rfl rfl)
    · exact .of_eq rfl rfl rfl rfl rfl rfl

/-! ### Fault Memory -/

theorem createAt_quiet (p : Fin 32) (r : FaultRec) (s : State) : Quiet s (createAt p r s) := by
  unfold createAt
  dsimp only
  have mark : ∀ m : FaultMemory, Quiet s (raiseTopic .faults { s with fault := m }) :=
    fun m => .of_eq rfl rfl rfl rfl rfl rfl
  split
  · exact (mark _).trans ((addItem_quiet (.position p) _).trans ((addItem_quiet .header _).trans (storePump_quiet _ _)))
  · exact mark _

theorem takePresent_quiet (c : FaultCode) (f : Freeze) (x : Option (Nat × Nat)) (s : State) :
    Quiet s (takePresent c f x s) := by
  unfold takePresent
  split
  · split
    · exact .refl s
    · split
      · exact .refl s
      · exact .of_eq rfl rfl rfl rfl rfl rfl
  · split
    · exact createAt_quiet _ _ s
    · split
      · exact createAt_quiet _ _ s
      · dsimp only
        split <;> exact .of_eq rfl rfl rfl rfl rfl rfl

theorem takeCleared_quiet (c : FaultCode) (s : State) : Quiet s (takeCleared c s) := by
  unfold takeCleared
  split
  · exact .refl s
  · split
    · exact .refl s
    · split
      · exact .of_eq rfl rfl rfl rfl rfl rfl
      · exact .refl s

theorem faultPresent_quiet (c : FaultCode) (x : Option (Nat × Nat)) (s : State) : Quiet s (faultPresent c x s) := by
  unfold faultPresent
  split
  · exact .of_eq rfl rfl rfl rfl rfl rfl
  · exact takePresent_quiet _ _ _ s

theorem faultCleared_quiet (c : FaultCode) (s : State) : Quiet s (faultCleared c s) := by
  unfold faultCleared
  split
  · exact .of_eq rfl rfl rfl rfl rfl rfl
  · exact takeCleared_quiet _ s

theorem takeNotices_quiet (ns : List Notice) (s : State) : Quiet s (takeNotices ns s) := by
  unfold takeNotices
  exact Quiet.foldl (fun s n => by
    split
    · exact faultPresent_quiet _ _ s
    · exact faultCleared_quiet _ s) ns s

theorem agePosition_quiet (s : State) (p : Fin 32) : Quiet s (agePosition s p) := by
  unfold agePosition
  split
  · exact .refl s
  · split
    · exact .refl s
    · dsimp only
      split <;> exact .of_eq rfl rfl rfl rfl rfl rfl

theorem ageFaults_quiet (s : State) : Quiet s (ageFaults s) := Quiet.foldl agePosition_quiet _ s

theorem takeHeld_quiet (s : State) (h : HeldNotice) : Quiet s (takeHeld s h) := by
  unfold takeHeld
  dsimp only
  split
  · exact (takePresent_quiet _ _ _ s).trans (takeCleared_quiet _ _)
  · exact takePresent_quiet _ _ _ s

theorem takeHeldNotices_quiet (s : State) : Quiet s (takeHeldNotices s) := by
  unfold takeHeldNotices
  exact Quiet.trans (t := { s with fault := { s.fault with held := [] } }) (.of_eq rfl rfl rfl rfl rfl rfl)
    (Quiet.foldl takeHeld_quiet _ _)

/-! ### Output Unit -/

theorem chimeDecide_quiet (s : State) : Quiet s (chimeDecide s) := by
  unfold chimeDecide
  split
  · exact .refl s
  · exact modChime_quiet _ s

theorem deliverShot_quiet (p : ChimePattern) (s : State) : Quiet s (deliverShot p s) := by
  unfold deliverShot
  split
  · exact .refl s
  · exact (modChime_quiet _ s).trans (chimeDecide_quiet _)

theorem setWarnStanding_quiet (d : Option ChimePattern) (s : State) : Quiet s (setWarnStanding d s) := by
  unfold setWarnStanding
  split
  · exact .refl s
  · exact (modChime_quiet _ s).trans (chimeDecide_quiet _)

theorem setDoorStanding_quiet (on : Bool) (s : State) : Quiet s (setDoorStanding on s) := by
  unfold setDoorStanding
  split
  · exact .refl s
  · exact (modChime_quiet _ s).trans (chimeDecide_quiet _)

theorem chimeOverrideChange_quiet (before : Option Setting) (s : State) : Quiet s (chimeOverrideChange before s) := by
  unfold chimeOverrideChange
  split
  · exact .refl s
  · exact chimeDecide_quiet s
  · exact modChime_quiet _ s

theorem outputEval_quiet (s : State) : Quiet s (outputEval s) := by
  unfold outputEval
  exact .of_eq rfl rfl rfl rfl rfl rfl

theorem tripLamp_quiet (l : Fin 16) (s : State) : Quiet s (tripLamp l s) := by
  unfold tripLamp
  dsimp only
  split
  · exact (modLamp_quiet _ _ s).trans (faultPresent_quiet _ _ _)
  · exact modLamp_quiet _ _ s

theorem proveLamp_quiet (l : Fin 16) (s : State) : Quiet s (proveLamp l s) := by
  unfold proveLamp
  exact (modLamp_quiet _ _ s).trans (faultCleared_quiet _ _)

theorem restoreLamp_quiet (s : State) (l : Fin 16) : Quiet s (restoreLamp s l) := by
  unfold restoreLamp
  split
  · exact .refl s
  · exact (modLamp_quiet _ _ s).trans (faultCleared_quiet _ _)

theorem restoreLamps_quiet (s : State) : Quiet s (restoreLamps s) := by
  unfold restoreLamps
  exact (Quiet.foldl restoreLamp_quiet _ s).trans (outputEval_quiet _)

theorem flipOpenLamp_quiet (l : Fin 16) (s : State) : Quiet s (flipOpenLamp l s) := by
  unfold flipOpenLamp
  dsimp only
  split
  · exact (modLamp_quiet _ _ s).trans (faultCleared_quiet _ _)
  · exact (modLamp_quiet _ _ s).trans (faultPresent_quiet _ _ _)

theorem protectSample_quiet (l : Fin 16) (reading : Nat) (s : State) : Quiet s (protectSample l reading s) := by
  unfold protectSample
  dsimp only
  refine (modLamp_quiet l (Lamp.countCurrent reading) s).trans ?_
  generalize s.modLamp l (Lamp.countCurrent reading) = t
  split
  · exact tripLamp_quiet l t
  · split
    · split
      · exact (modLamp_quiet _ _ t).trans (proveLamp_quiet _ _)
      · exact modLamp_quiet _ _ t
    · exact .refl t

theorem openSample_quiet (l : Fin 16) (reading : Nat) (s : State) : Quiet s (openSample l reading s) := by
  unfold openSample
  dsimp only
  repeat' split
  all_goals first
    | exact (modLamp_quiet _ _ s).trans (flipOpenLamp_quiet _ _)
    | exact modLamp_quiet _ _ s

theorem lampSample_quiet (e : Bool) (l : Fin 16) (reading : Nat) (s : State) : Quiet s (lampSample e l reading s) := by
  unfold lampSample
  split
  · dsimp only
    split
    · exact (protectSample_quiet _ _ s).trans (openSample_quiet _ _ _)
    · exact protectSample_quiet _ _ s
  · exact .refl s

theorem configureLamp_quiet (c : BlockConfig) (s : State) (l : Fin 16) : Quiet s (configureLamp c s l) := by
  unfold configureLamp
  dsimp only
  refine (modLamp_quiet l (Lamp.configure c l) s).trans ?_
  generalize s.modLamp l (Lamp.configure c l) = t
  split
  · split
    · exact modLamp_quiet _ _ t
    · exact tripLamp_quiet _ t
  · exact .refl t

/-! ### Doorway Monitor and Signal Table -/

theorem handleSample_quiet (level : Bool) (d : Fin 4) (s : State) : Quiet s (handleSample level d s) := by
  unfold handleSample
  dsimp only
  split
  · exact (modDoor_quiet _ _ s).trans (modDoor_quiet _ _ _)
  · exact modDoor_quiet _ _ s

theorem contradictionNotice_quiet (s0 s : State) (d : Fin 4) : Quiet s (contradictionNotice s0 s d) := by
  unfold contradictionNotice
  dsimp only
  split
  · exact faultPresent_quiet _ _ s
  · split
    · exact faultCleared_quiet _ s
    · exact .refl s

theorem doorDeliveries_quiet (s0 s : State) : Quiet s (doorDeliveries s0 s) := by
  unfold doorDeliveries
  dsimp only
  have h := (outputEval_quiet s).trans ((setDoorStanding_quiet s.anyFlashing _).trans
    (Quiet.foldl (contradictionNotice_quiet s0) (indices 4) _))
  split
  · exact h
  · exact h.trans (raiseTopic_quiet _ _)

theorem doorEvalFrom_quiet (s0 s : State) : Quiet s (doorEvalFrom s0 s) := by
  unfold doorEvalFrom
  exact Quiet.trans (t := { s with doors := s.evalDoors }) (.of_eq rfl rfl rfl rfl rfl rfl) (doorDeliveries_quiet s0 _)

theorem withWarn_quiet (s : State) (m : WarningManager) : Quiet s { s with warn := m } := .of_eq rfl rfl rfl rfl rfl rfl

theorem deliverConditions_quiet (t0 : SignalTable) (s : State) : Quiet s (deliverConditions t0 s) := by
  unfold deliverConditions
  exact (takeNotices_quiet _ s).trans (withWarn_quiet _ _)

/-! ### Speed Unit -/

theorem scheduleWrite_quiet (s : State) : Quiet s (scheduleWrite s) := by
  unfold scheduleWrite
  split
  · refine Quiet.trans ?_ ((addItem_quiet _ _).trans (storePump_quiet _ _))
    exact .of_eq rfl rfl rfl rfl rfl rfl
  · exact .refl s

theorem increment_quiet (s : State) : Quiet s (increment s) := by
  unfold increment
  dsimp only
  split
  · refine Quiet.trans ?_ (scheduleWrite_quiet _)
    exact .of_eq rfl rfl rfl rfl rfl rfl
  · exact .of_eq rfl rfl rfl rfl rfl rfl

theorem increments_quiet (n : Nat) (s : State) : Quiet s (increments n s) := by
  induction n generalizing s with
  | zero => exact .refl s
  | succ n ih => exact (increment_quiet s).trans (ih _)

theorem countPulse_quiet (s : State) : Quiet s (countPulse s) := by
  unfold countPulse
  dsimp only
  split
  · split
    · refine Quiet.trans ?_ (increment_quiet _)
      exact .of_eq rfl rfl rfl rfl rfl rfl
    · exact .of_eq rfl rfl rfl rfl rfl rfl
  · exact .of_eq rfl rfl rfl rfl rfl rfl

theorem filteredEdge_quiet (p : PulseId) (now : Word) (s : State) : Quiet s (filteredEdge p now s) := by
  cases p
  · refine Quiet.trans ?_ (countPulse_quiet _)
    exact .of_eq rfl rfl rfl rfl rfl rfl
  · exact .of_eq rfl rfl rfl rfl rfl rfl

theorem edgeSample_quiet (p : PulseId) (level : Bool) (now : Word) (s : State) : Quiet s (edgeSample p level now s) := by
  unfold edgeSample
  dsimp only
  split
  · refine Quiet.trans ?_ (filteredEdge_quiet _ _ _)
    exact .of_eq rfl rfl rfl rfl rfl rfl
  · exact .of_eq rfl rfl rfl rfl rfl rfl

theorem speedFrame_quiet (now : Word) (s : State) : Quiet s (speedFrame now s) := by
  unfold speedFrame
  dsimp only
  split
  · exact .of_eq rfl rfl rfl rfl rfl rfl
  · refine Quiet.trans ?_ (doorEvalFrom_quiet s _)
    exact .of_eq rfl rfl rfl rfl rfl rfl

/-! ### Gauge Unit -/

theorem sweepEnd_quiet (g : Fin 6) (how : SweepRecord) (s : State) : Quiet s (sweepEnd g how s) := by
  unfold sweepEnd
  split
  · exact ⟨rfl, rfl, rfl, rfl, rfl, .inl rfl, id⟩
  · exact .refl s

theorem deliverAbort_quiet (g : Fin 6) (before after : Gauge) (s : State) : Quiet s (deliverAbort g before after s) := by
  unfold deliverAbort
  split
  · exact sweepEnd_quiet _ _ s
  · exact .refl s

theorem gaugeStep_quiet (s : State) (g : Fin 6) : Quiet s (gaugeStep s g) := by
  unfold gaugeStep
  dsimp only
  have h := fun (f : Gauge → Gauge) (a b : Gauge) => (modGauge_quiet g f s).trans (deliverAbort_quiet g a b _)
  split
  · split
    · exact (h _ _ _).trans ((sweepEnd_quiet _ _ _).trans (raiseTopic_quiet _ _))
    · exact (h _ _ _).trans (raiseTopic_quiet _ _)
  · split
    · exact (h _ _ _).trans (sweepEnd_quiet _ _ _)
    · exact h _ _ _

theorem gaugeFrames_quiet (s : State) : Quiet s (gaugeFrames s) := by
  unfold gaugeFrames
  split
  · exact .refl s
  · exact (modGauges_quiet _ s).trans (Quiet.foldl gaugeStep_quiet _ _)

theorem gaugesCrankStart_quiet (s : State) : Quiet s (gaugesCrankStart s) := .of_eq rfl rfl rfl rfl rfl rfl
theorem gaugesCrankEnd_quiet (s : State) : Quiet s (gaugesCrankEnd s) := .of_eq rfl rfl rfl rfl rfl rfl
theorem gaugesHoldEnd_quiet (s : State) : Quiet s (gaugesHoldEnd s) := .of_eq rfl rfl rfl rfl rfl rfl
theorem gaugesWatch_quiet (s : State) : Quiet s (gaugesWatch s) := .of_eq rfl rfl rfl rfl rfl rfl

theorem gaugesPark_quiet (s : State) : Quiet s (gaugesPark s) := by
  unfold gaugesPark
  exact (modGauges_quiet Gauge.park s).trans (Quiet.foldl (fun _ _ => deliverAbort_quiet _ _ _ _) _ _)

theorem gaugesKeyReturn_quiet (s : State) : Quiet s (gaugesKeyReturn s) := by
  unfold gaugesKeyReturn
  split
  · exact modGauges_quiet _ s
  · exact .refl s

theorem closeSweep_quiet (s : State) (g : Fin 6) : Quiet s (closeSweep s g) := by
  unfold closeSweep
  split
  · exact (modGauge_quiet _ _ s).trans (deliverAbort_quiet _ _ _ _)
  · exact .refl s

/-! ### Warning Manager -/

theorem turnTrigger_quiet (w : Fin 56) (t : Trigger) (s : State) : Quiet s (turnTrigger w t s) := by
  unfold turnTrigger
  dsimp only
  split
  · split
    · exact (modWarn_quiet _ s).trans ((modWarn_quiet _ _).trans (faultPresent_quiet _ _ _))
    · exact (modWarn_quiet _ s).trans (modWarn_quiet _ _)
  · split
    · split
      · exact (modWarn_quiet _ s).trans ((modWarn_quiet _ _).trans (faultCleared_quiet _ _))
      · exact (modWarn_quiet _ s).trans (modWarn_quiet _ _)
    · exact modWarn_quiet _ s

theorem evalTrigger_quiet (s : State) (w : Fin 56) : Quiet s (evalTrigger s w) := by
  unfold evalTrigger
  dsimp only
  split
  · exact turnTrigger_quiet _ _ s
  · exact .refl s

theorem closeChime_quiet (s : State) : Quiet s (closeChime s) := by
  unfold closeChime
  dsimp only
  split
  · exact (setWarnStanding_quiet _ s).trans ((modWarn_quiet _ _).trans (deliverShot_quiet _ _))
  · exact setWarnStanding_quiet _ s

theorem closeTelltales_quiet (s : State) : Quiet s (closeTelltales s) := by
  unfold closeTelltales
  dsimp only
  split
  · exact .refl s
  · exact .of_eq rfl rfl rfl rfl rfl rfl

theorem closingSteps_quiet (s0 s : State) : Quiet s (closingSteps s0 s) := by
  unfold closingSteps
  dsimp only
  have h := (modWarn_quiet (fun m => { m with presented := m.toPresent.map (fun e => e.defn) }) s).trans
    ((closeChime_quiet _).trans (closeTelltales_quiet _))
  split
  · exact h
  · exact h.trans (raiseTopic_quiet _ _)

theorem warningTick_quiet (s : State) : Quiet s (warningTick s) := by
  unfold warningTick
  exact (Quiet.foldl evalTrigger_quiet _ s).trans (closingSteps_quiet s _)

/-! ### Service Unit -/

theorem endMask_quiet (s : State) (d : Fin 4) : Quiet s (endMask s d) := modDoor_quiet _ _ s

theorem applyLists_quiet (s0 s : State) : Quiet s (applyLists s0 s) := by
  unfold applyLists
  exact (Quiet.foldl endMask_quiet _ s).trans ((doorEvalFrom_quiet s0 _).trans (chimeOverrideChange_quiet _ _))

theorem droppedAccess_quiet (p : Purpose) (s : State) : Quiet s (droppedAccess p s) := by
  unfold droppedAccess
  split
  · exact .of_eq rfl rfl rfl rfl rfl rfl
  · exact .of_store rfl rfl rfl rfl rfl rfl rfl rfl
  · exact .refl s

theorem dropServiceAccess_quiet (s : State) : Quiet s (dropServiceAccess s) := by
  unfold dropServiceAccess
  split
  · split
    · refine Quiet.trans ?_ ((droppedAccess_quiet _ _).trans (answerHeld_quiet _ _ _ _ _))
      refine ⟨rfl, rfl, rfl, rfl, rfl, .inl rfl, fun h => ?_⟩
      obtain ⟨a, b, c, d, e, f⟩ := h
      exact ⟨a, b, c, d, rfl, f⟩
    · exact .refl s
  · exact .refl s

theorem closeService_quiet (cause : CloseCause) (s : State) : Quiet s (closeService cause s) := by
  unfold closeService
  split
  · refine Quiet.trans ?_ ((applyLists_quiet s _).trans ((Quiet.foldl closeSweep_quiet _ _).trans
      ((dropServiceAccess_quiet _).trans (raiseTopic_quiet _ _))))
    exact ⟨rfl, rfl, rfl, rfl, rfl, .inr rfl, id⟩
  · exact .refl s

theorem parkBrakeNotice_quiet (s : State) : Quiet s (parkBrakeNotice s) := by
  unfold parkBrakeNotice
  dsimp only
  split
  · refine Quiet.trans ?_ (closeService_quiet _ _)
    exact .of_eq rfl rfl rfl rfl rfl rfl
  · exact .of_eq rfl rfl rfl rfl rfl rfl

theorem speedClose_quiet (s : State) : Quiet s (speedClose s) := by
  unfold speedClose
  split
  · exact closeService_quiet _ s
  · exact .refl s

/-! ### Power Controller -/

theorem enterWatch_quiet (s : State) : Quiet s (enterWatch s) := by
  refine (gaugesWatch_quiet s).trans ?_
  refine ⟨rfl, rfl, rfl, rfl, rfl, .inl rfl, fun h => ?_⟩
  exact ⟨h.1, rfl, rfl, rfl, rfl, rfl⟩

theorem watchWhenReady_quiet (s : State) : Quiet s (watchWhenReady s) := by
  unfold watchWhenReady
  split
  · exact enterWatch_quiet s
  · exact .refl s

theorem enterParking_quiet (s : State) : Quiet s (enterParking s) := by
  unfold enterParking
  exact (modPower_quiet _ s).trans ((gaugesPark_quiet _).trans ((requestParkingWrite_quiet _).trans
    ((requestFaultFlush_quiet _).trans ((storePump_quiet _ _).trans
      ((closeService_quiet _ _).trans (watchWhenReady_quiet _))))))

theorem enterCrank_quiet (s : State) : Quiet s (enterCrank s) := by
  unfold enterCrank
  refine Quiet.trans ?_ ((doorEvalFrom_quiet s _).trans (gaugesCrankStart_quiet _))
  exact .of_eq rfl rfl rfl rfl rfl rfl

theorem crankAtOnce_quiet (s : State) : Quiet s (crankAtOnce s) := by
  unfold crankAtOnce
  split
  · exact enterCrank_quiet s
  · exact .refl s

theorem enterRunStart_quiet (s : State) : Quiet s (enterRunStart s) := by
  unfold enterRunStart
  exact (modPower_quiet _ s).trans ((restoreLamps_quiet _).trans (ageFaults_quiet _))

theorem runRows_quiet (s : State) : Quiet s (runRows s) := by
  unfold runRows
  split
  · exact enterCrank_quiet s
  · split
    · exact modPower_quiet _ s
    · split <;> exact modPower_quiet _ s

theorem keyReturn_quiet (m : PowerMode) (s : State) : Quiet s (keyReturn m s) := by
  unfold keyReturn
  exact (modPower_quiet _ s).trans (gaugesKeyReturn_quiet _)

theorem modeEval_quiet (s : State) : Quiet s (modeEval s) := by
  unfold modeEval
  split
  · split
    · exact .refl s
    · split
      · exact (enterRunStart_quiet s).trans (crankAtOnce_quiet _)
      · split
        · exact modPower_quiet _ s
        · exact enterParking_quiet s
  · split
    · exact enterRunStart_quiet s
    · split <;> exact modPower_quiet _ s
  · exact runRows_quiet s
  · split
    · refine Quiet.trans ?_ ((gaugesCrankEnd_quiet _).trans (runRows_quiet _))
      exact .of_eq rfl rfl rfl rfl rfl rfl
    · exact .refl s
  · split
    · exact (keyReturn_quiet _ s).trans (crankAtOnce_quiet _)
    · split
      · exact keyReturn_quiet _ s
      · exact watchWhenReady_quiet s
  · exact .refl s

theorem modeEvals_quiet (n : Nat) (s : State) : Quiet s (modeEvals n s) := by
  induction n generalizing s with
  | zero => exact .refl s
  | succ n ih => exact (modeEval_quiet s).trans (ih _)

/-! ### The end of the preload -/

theorem configureBlocks_quiet (c : BlockConfig) (s : State) : Quiet s (configureBlocks c s) := by
  unfold configureBlocks
  dsimp only
  refine Quiet.trans ?_ (Quiet.foldl (configureLamp_quiet c) _ _)
  refine Quiet.trans (t := configureSpeed c _) ?_ (.of_eq rfl rfl rfl rfl rfl rfl)
  refine Quiet.trans ?_ (increments_quiet _ _)
  exact .of_eq rfl rfl rfl rfl rfl rfl

/-- The end of the preload leaves the staging image it was given. -/
theorem finishPreload_quiet (s : State) (r : PreloadResult) (c : BlockConfig) (staging : Mem) :
    Quiet { s with store := { s.store with staging := staging } } (finishPreload s r c staging) := by
  unfold finishPreload
  refine Quiet.trans ?_ ((raiseTopic_quiet .store _).trans ((configureBlocks_quiet c _).trans
    ((doorEvalFrom_quiet s _).trans ((parkBrakeNotice_quiet _).trans (modeEval_quiet _)))))
  exact .of_store rfl rfl rfl rfl rfl rfl rfl rfl

/-! ### Completions and the end of a command -/

theorem raiseIndication_quiet (a : Access) (s : State) : Quiet s (raiseIndication a s) := by
  unfold raiseIndication
  refine Quiet.trans ?_ ((raiseTopic_quiet .store _).trans (faultPresent_quiet _ _ _))
  exact .of_store rfl rfl rfl rfl rfl rfl rfl rfl

theorem lowerIndication_quiet (s : State) : Quiet s (lowerIndication s) := by
  unfold lowerIndication
  split
  · refine Quiet.trans ?_ ((raiseTopic_quiet .store _).trans (faultCleared_quiet _ _))
    exact .of_store rfl rfl rfl rfl rfl rfl rfl rfl
  · exact .refl s

theorem handPreload_quiet (p : Purpose) (hp : p.inArea = true) (s : State) : Quiet s (handPreload p s) := by
  refine ⟨rfl, rfl, rfl, rfl, rfl, .inl rfl, fun h => ?_⟩
  obtain ⟨a, b, c, d, e, f⟩ := h
  exact ⟨a, by simp [handPreload, hp], c, d, e, f⟩

theorem faultsRead_quiet (read : Option (List Byte)) (s : State) : Quiet s (faultsRead read s) := by
  unfold faultsRead
  refine Quiet.trans ?_ ((raiseTopic_quiet .faults _).trans (takeHeldNotices_quiet _))
  exact .of_eq rfl rfl rfl rfl rfl rfl

theorem parkItemOutcome_quiet (ok : Bool) (item : WriterItem) (s : State) : Quiet s (parkItemOutcome ok item s) := by
  unfold parkItemOutcome
  split
  · exact .of_eq rfl rfl rfl rfl rfl rfl
  · split
    · exact .of_eq rfl rfl rfl rfl rfl rfl
    · exact .refl s

theorem faultClearOutcome_quiet (ok : Bool) (s : State) : Quiet s (faultClearOutcome ok s) := by
  unfold faultClearOutcome
  split
  · dsimp only
    split
    · refine Quiet.trans ?_ (answerHeld_quiet _ _ _ _ _)
      exact .of_eq rfl rfl rfl rfl rfl rfl
    · refine Quiet.trans ?_ ((raiseTopic_quiet .faults _).trans (answerHeld_quiet _ _ _ _ _))
      exact .of_eq rfl rfl rfl rfl rfl rfl
  · refine Quiet.trans ?_ (answerHeld_quiet _ _ _ _ _)
    exact .of_eq rfl rfl rfl rfl rfl rfl

theorem releaseOutcome_quiet (ok : Bool) (l : LinkId) (s : State) : Quiet s (releaseOutcome ok l s) := by
  unfold releaseOutcome
  refine Quiet.trans ?_ ((raiseTopic_quiet .store _).trans (answerHeld_quiet _ _ _ _ _))
  exact .of_store rfl rfl rfl rfl rfl rfl rfl rfl

theorem readOutcome_quiet (ok : Bool) (l : LinkId) (a : Access) (s : State) : Quiet s (readOutcome ok l a s) := by
  unfold readOutcome
  split <;> exact answerHeld_quiet _ _ _ _ _

/-- Every outcome but the CONFIG read's, which ends the preload, is quiet. -/
theorem takeOutcome_quiet (ok : Bool) (a : Access) (s : State) (h : a.purpose ≠ .preConfig) :
    Quiet s (takeOutcome ok a s) := by
  unfold takeOutcome
  dsimp only
  split
  · refine Quiet.trans ?_ (handPreload_quiet _ rfl _)
    exact .of_eq rfl rfl rfl rfl rfl rfl
  · exact (faultsRead_quiet _ s).trans (handPreload_quiet _ rfl _)
  · next e => exact absurd e h
  · exact .of_eq rfl rfl rfl rfl rfl rfl
  · exact parkItemOutcome_quiet _ _ s
  · exact .of_eq rfl rfl rfl rfl rfl rfl
  · split
    · exact .refl s
    · exact .of_eq rfl rfl rfl rfl rfl rfl
  · exact readOutcome_quiet _ _ _ s
  · exact answerHeld_quiet _ _ _ _ s
  · refine Quiet.trans ?_ (answerHeld_quiet _ _ _ _ _)
    exact .of_eq rfl rfl rfl rfl rfl rfl
  · exact faultClearOutcome_quiet _ s
  · exact releaseOutcome_quiet _ _ s

theorem nextAccess_quiet (s : State) : Quiet s (nextAccess s) := by
  unfold nextAccess
  dsimp only
  have h : Quiet s (modeEval (topicIf (s.power.mode == .parking) .power { s with store := { s.store with inFlight := none } })) := by
    refine Quiet.trans ?_ ((topicIf_quiet _ _ _).trans (modeEval_quiet _))
    refine ⟨rfl, rfl, rfl, rfl, rfl, .inl rfl, fun h => ?_⟩
    obtain ⟨_, b, c, d, e, f⟩ := h
    exact ⟨rfl, b, c, d, e, f⟩
  split
  · exact h
  · exact h.trans (storePump_quiet _ _)

theorem pumpLink_quiet (l : LinkId) (s : State) : Quiet s (pumpLink l s) := by
  unfold pumpLink
  dsimp only
  split
  · exact .refl s
  · exact modLink_quiet _ _ s
  · split
    · exact .refl s
    · exact modLink_quiet _ _ s

theorem pumpLinks_quiet (s : State) : Quiet s (pumpLinks s) := (pumpLink_quiet .display s).trans (pumpLink_quiet .service _)

theorem settleMode_quiet (fuel : Nat) (before : Bool × Bool × Bool × Bool) (s : State) :
    Quiet s (settleMode fuel before s) := by
  induction fuel generalizing before s with
  | zero => exact .refl s
  | succ fuel ih =>
    unfold settleMode
    split
    · exact .refl s
    · exact (modeEval_quiet s).trans (ih _ _)

theorem finish_quiet (s0 s : State) : Quiet s (finish s0 s) := by
  unfold finish
  exact (settleMode_quiet _ _ s).trans ((topicIf_quiet _ _ _).trans ((topicIf_quiet _ _ _).trans (pumpLinks_quiet _)))

end Sys2Proof.Machine
end

