-- ==== Sys2Proof/Laws/Beside.lean ====
section
/-!
SUPPORT. What the operations of the Fault Memory, the store arbiter, the Output Unit and the Doorway Monitor leave alone:
the Signal Table, the gauges, the warnings, the Service Unit, the Power Controller, the timebase and the configuration
state, one lemma per operation.
-/

namespace Sys2Proof.Machine

/-- An operation that stays beside those blocks. -/
structure Beside (s t : State) : Prop where
  sig : t.sig = s.sig
  gauges : t.gauges = s.gauges
  warn : t.warn = s.warn
  svc : t.svc = s.svc
  power : t.power = s.power
  timebase : t.timebase = s.timebase
  cfgState : t.store.cfgState = s.store.cfgState
  source : t.store.source = s.store.source

theorem Beside.refl (s : State) : Beside s s := ⟨rfl, rfl, rfl, rfl, rfl, rfl, rfl, rfl⟩

theorem Beside.trans {s t u : State} (h : Beside s t) (k : Beside t u) : Beside s u :=
  ⟨k.sig.trans h.sig, k.gauges.trans h.gauges, k.warn.trans h.warn, k.svc.trans h.svc, k.power.trans h.power,
    k.timebase.trans h.timebase, k.cfgState.trans h.cfgState, k.source.trans h.source⟩

theorem Beside.foldl {α : Type} {f : State → α → State} (hf : ∀ s a, Beside s (f s a)) :
    (as : List α) → (s : State) → Beside s (as.foldl f s)
  | [], s => .refl s
  | a :: as, s => (hf s a).trans (Beside.foldl hf as (f s a))

theorem raiseTopic_beside (t : Topic) (s : State) : Beside s (raiseTopic t s) := ⟨rfl, rfl, rfl, rfl, rfl, rfl, rfl, rfl⟩

theorem modLink_beside (l : LinkId) (f : Link → Link) (s : State) : Beside s (s.modLink l f) := ⟨rfl, rfl, rfl, rfl, rfl, rfl, rfl, rfl⟩

theorem placeReply_beside (l : LinkId) (f : Frame) (s : State) : Beside s (placeReply l f s) := ⟨rfl, rfl, rfl, rfl, rfl, rfl, rfl, rfl⟩

theorem modLamp_beside (l : Fin 16) (f : Lamp → Lamp) (s : State) : Beside s (s.modLamp l f) := ⟨rfl, rfl, rfl, rfl, rfl, rfl, rfl, rfl⟩

theorem modChime_beside (f : Chime → Chime) (s : State) : Beside s (s.modChime f) := ⟨rfl, rfl, rfl, rfl, rfl, rfl, rfl, rfl⟩

theorem modDoor_beside (d : Fin 4) (f : Doorway → Doorway) (s : State) : Beside s (s.modDoor d f) := ⟨rfl, rfl, rfl, rfl, rfl, rfl, rfl, rfl⟩

theorem answerHeld_beside (l : LinkId) (st : Status) (fields : List Byte) (r : Bool) (s : State) :
    Beside s (answerHeld l st fields r s) := by
  unfold answerHeld
  split
  · exact ⟨rfl, rfl, rfl, rfl, rfl, rfl, rfl, rfl⟩
  · exact .refl s

theorem addItem_beside (item : WriterItem) (s : State) : Beside s (addItem item s) := by
  unfold addItem
  split
  · exact .refl s
  · exact ⟨rfl, rfl, rfl, rfl, rfl, rfl, rfl, rfl⟩

theorem recordPump_beside (s : State) : Beside s (recordPump s) := by
  unfold recordPump
  split
  · exact ⟨rfl, rfl, rfl, rfl, rfl, rfl, rfl, rfl⟩
  · exact .refl s

theorem withdrawScheduled_beside (s : State) : Beside s (withdrawScheduled s) := by
  unfold withdrawScheduled
  split
  · exact ⟨rfl, rfl, rfl, rfl, rfl, rfl, rfl, rfl⟩
  · exact .refl s

theorem withdrawFaultItems_beside (s : State) : Beside s (withdrawFaultItems s) := ⟨rfl, rfl, rfl, rfl, rfl, rfl, rfl, rfl⟩

theorem beginFaultPart_beside (s : State) : Beside s (beginFaultPart s) := by
  unfold beginFaultPart
  split
  · split <;> exact ⟨rfl, rfl, rfl, rfl, rfl, rfl, rfl, rfl⟩
  · exact .refl s

theorem handPark_beside (p : Purpose) (s : State) : Beside s
    { s with store := { s.store with waiting := { s.store.waiting with parkFlush := some p } } } := ⟨rfl, rfl, rfl, rfl, rfl, rfl, rfl, rfl⟩

theorem parkPump_beside (s : State) : Beside s (parkPump s) := by
  unfold parkPump
  dsimp only
  refine (beginFaultPart_beside s).trans ?_
  generalize beginFaultPart s = t
  split
  · exact .refl t
  · split
    · exact handPark_beside .parkOdo t
    · split
      · split
        · next item rest _ =>
          exact Beside.trans (t := { t with fault := { t.fault with partItems := rest } })
            ⟨rfl, rfl, rfl, rfl, rfl, rfl, rfl, rfl⟩ (handPark_beside (.parkItem item) _)
        · exact .refl t
      · exact .refl t

theorem fly_beside (a : Access) (s : State) : Beside s (fly a s) := ⟨rfl, rfl, rfl, rfl, rfl, rfl, rfl, rfl⟩

theorem startAccess_beside (p : Purpose) (s : State) : Beside s (startAccess p s) := by
  unfold startAccess
  split
  all_goals try exact ⟨rfl, rfl, rfl, rfl, rfl, rfl, rfl, rfl⟩
  split
  · exact ⟨rfl, rfl, rfl, rfl, rfl, rfl, rfl, rfl⟩
  · exact ⟨rfl, rfl, rfl, rfl, rfl, rfl, rfl, rfl⟩

theorem storePump_beside (fuel : Nat) (s : State) : Beside s (storePump fuel s) := by
  induction fuel generalizing s with
  | zero => exact .refl s
  | succ fuel ih =>
    unfold storePump
    dsimp only
    refine ((parkPump_beside s).trans (recordPump_beside (parkPump s))).trans ?_
    generalize recordPump (parkPump s) = t
    split
    · exact .refl t
    · split
      · exact .refl t
      · next p rest hp =>
        have h : Beside t (startAccess p { t with store := { t.store with waiting := rest } }) := by
          refine Beside.trans ?_ (startAccess_beside p _)
          exact ⟨rfl, rfl, rfl, rfl, rfl, rfl, rfl, rfl⟩
        split
        · exact h
        · exact h.trans (ih _)

theorem handLinkAccess_beside (l : LinkId) (p : Purpose) (s : State) : Beside s (handLinkAccess l p s) := by
  unfold handLinkAccess
  dsimp only
  refine Beside.trans ?_ (storePump_beside _ _)
  exact ⟨rfl, rfl, rfl, rfl, rfl, rfl, rfl, rfl⟩

theorem createAt_beside (p : Fin 32) (r : FaultRec) (s : State) : Beside s (createAt p r s) := by
  unfold createAt
  dsimp only
  have mark : ∀ m : FaultMemory, Beside s (raiseTopic .faults { s with fault := m }) :=
    fun m => ⟨rfl, rfl, rfl, rfl, rfl, rfl, rfl, rfl⟩
  split
  · exact (mark _).trans ((addItem_beside (.position p) _).trans ((addItem_beside .header _).trans (storePump_beside _ _)))
  · exact mark _

theorem takePresent_beside (c : FaultCode) (f : Freeze) (x : Option (Nat × Nat)) (s : State) :
    Beside s (takePresent c f x s) := by
  unfold takePresent
  split
  · split
    · exact .refl s
    · split
      · exact .refl s
      · exact ⟨rfl, rfl, rfl, rfl, rfl, rfl, rfl, rfl⟩
  · split
    · exact createAt_beside _ _ s
    · split
      · exact createAt_beside _ _ s
      · dsimp only
        split <;> exact ⟨rfl, rfl, rfl, rfl, rfl, rfl, rfl, rfl⟩

theorem takeCleared_beside (c : FaultCode) (s : State) : Beside s (takeCleared c s) := by
  unfold takeCleared
  split
  · exact .refl s
  · split
    · exact .refl s
    · split
      · exact ⟨rfl, rfl, rfl, rfl, rfl, rfl, rfl, rfl⟩
      · exact .refl s

theorem faultPresent_beside (c : FaultCode) (x : Option (Nat × Nat)) (s : State) : Beside s (faultPresent c x s) := by
  unfold faultPresent
  split
  · exact ⟨rfl, rfl, rfl, rfl, rfl, rfl, rfl, rfl⟩
  · exact takePresent_beside _ _ _ s

theorem faultCleared_beside (c : FaultCode) (s : State) : Beside s (faultCleared c s) := by
  unfold faultCleared
  split
  · exact ⟨rfl, rfl, rfl, rfl, rfl, rfl, rfl, rfl⟩
  · exact takeCleared_beside _ s

theorem takeNotices_beside (ns : List Notice) (s : State) : Beside s (takeNotices ns s) := by
  unfold takeNotices
  exact Beside.foldl (fun s n => by
    split
    · exact faultPresent_beside _ _ s
    · exact faultCleared_beside _ s) ns s

theorem agePosition_beside (s : State) (p : Fin 32) : Beside s (agePosition s p) := by
  unfold agePosition
  split
  · exact .refl s
  · split
    · exact .refl s
    · dsimp only
      split <;> exact ⟨rfl, rfl, rfl, rfl, rfl, rfl, rfl, rfl⟩

theorem ageFaults_beside (s : State) : Beside s (ageFaults s) := Beside.foldl agePosition_beside _ s

theorem takeHeld_beside (s : State) (h : HeldNotice) : Beside s (takeHeld s h) := by
  unfold takeHeld
  dsimp only
  split
  · exact (takePresent_beside _ _ _ s).trans (takeCleared_beside _ _)
  · exact takePresent_beside _ _ _ s

theorem takeHeldNotices_beside (s : State) : Beside s (takeHeldNotices s) := by
  unfold takeHeldNotices
  exact Beside.trans (t := { s with fault := { s.fault with held := [] } }) ⟨rfl, rfl, rfl, rfl, rfl, rfl, rfl, rfl⟩
    (Beside.foldl takeHeld_beside _ _)

theorem chimeDecide_beside (s : State) : Beside s (chimeDecide s) := by
  unfold chimeDecide
  split
  · exact .refl s
  · exact modChime_beside _ s

theorem deliverShot_beside (p : ChimePattern) (s : State) : Beside s (deliverShot p s) := by
  unfold deliverShot
  split
  · exact .refl s
  · exact (modChime_beside _ s).trans (chimeDecide_beside _)

theorem setWarnStanding_beside (d : Option ChimePattern) (s : State) : Beside s (setWarnStanding d s) := by
  unfold setWarnStanding
  split
  · exact .refl s
  · exact (modChime_beside _ s).trans (chimeDecide_beside _)

theorem setDoorStanding_beside (on : Bool) (s : State) : Beside s (setDoorStanding on s) := by
  unfold setDoorStanding
  split
  · exact .refl s
  · exact (modChime_beside _ s).trans (chimeDecide_beside _)

theorem chimeOverrideChange_beside (before : Option Setting) (s : State) : Beside s (chimeOverrideChange before s) := by
  unfold chimeOverrideChange
  split
  · exact .refl s
  · exact chimeDecide_beside s
  · exact modChime_beside _ s

theorem outputEval_beside (s : State) : Beside s (outputEval s) := by
  unfold outputEval
  exact ⟨rfl, rfl, rfl, rfl, rfl, rfl, rfl, rfl⟩

theorem tripLamp_beside (l : Fin 16) (s : State) : Beside s (tripLamp l s) := by
  unfold tripLamp
  dsimp only
  split
  · exact (modLamp_beside _ _ s).trans (faultPresent_beside _ _ _)
  · exact modLamp_beside _ _ s

theorem proveLamp_beside (l : Fin 16) (s : State) : Beside s (proveLamp l s) := by
  unfold proveLamp
  exact (modLamp_beside _ _ s).trans (faultCleared_beside _ _)

theorem restoreLamp_beside (s : State) (l : Fin 16) : Beside s (restoreLamp s l) := by
  unfold restoreLamp
  split
  · exact .refl s
  · exact (modLamp_beside _ _ s).trans (faultCleared_beside _ _)

theorem restoreLamps_beside (s : State) : Beside s (restoreLamps s) := by
  unfold restoreLamps
  exact (Beside.foldl restoreLamp_beside _ s).trans (outputEval_beside _)

theorem flipOpenLamp_beside (l : Fin 16) (s : State) : Beside s (flipOpenLamp l s) := by
  unfold flipOpenLamp
  dsimp only
  split
  · exact (modLamp_beside _ _ s).trans (faultCleared_beside _ _)
  · exact (modLamp_beside _ _ s).trans (faultPresent_beside _ _ _)

theorem protectSample_beside (l : Fin 16) (reading : Nat) (s : State) : Beside s (protectSample l reading s) := by
  unfold protectSample
  dsimp only
  refine (modLamp_beside l (Lamp.countCurrent reading) s).trans ?_
  generalize s.modLamp l (Lamp.countCurrent reading) = t
  split
  · exact tripLamp_beside l t
  · split
    · split
      · exact (modLamp_beside _ _ t).trans (proveLamp_beside _ _)
      · exact modLamp_beside _ _ t
    · exact .refl t

theorem openSample_beside (l : Fin 16) (reading : Nat) (s : State) : Beside s (openSample l reading s) := by
  unfold openSample
  dsimp only
  repeat' split
  all_goals first
    | exact (modLamp_beside _ _ s).trans (flipOpenLamp_beside _ _)
    | exact modLamp_beside _ _ s

theorem lampSample_beside (e : Bool) (l : Fin 16) (reading : Nat) (s : State) : Beside s (lampSample e l reading s) := by
  unfold lampSample
  split
  · dsimp only
    split
    · exact (protectSample_beside _ _ s).trans (openSample_beside _ _ _)
    · exact protectSample_beside _ _ s
  · exact .refl s

theorem handleSample_beside (level : Bool) (d : Fin 4) (s : State) : Beside s (handleSample level d s) := by
  unfold handleSample
  dsimp only
  split
  · exact (modDoor_beside _ _ s).trans (modDoor_beside _ _ _)
  · exact modDoor_beside _ _ s

theorem contradictionNotice_beside (s0 s : State) (d : Fin 4) : Beside s (contradictionNotice s0 s d) := by
  unfold contradictionNotice
  dsimp only
  split
  · exact faultPresent_beside _ _ s
  · split
    · exact faultCleared_beside _ s
    · exact .refl s

theorem doorDeliveries_beside (s0 s : State) : Beside s (doorDeliveries s0 s) := by
  unfold doorDeliveries
  dsimp only
  have h := (outputEval_beside s).trans ((setDoorStanding_beside s.anyFlashing _).trans
    (Beside.foldl (contradictionNotice_beside s0) (indices 4) _))
  split
  · exact h
  · exact h.trans (raiseTopic_beside _ _)

theorem doorEvalFrom_beside (s0 s : State) : Beside s (doorEvalFrom s0 s) := by
  unfold doorEvalFrom
  exact Beside.trans (t := { s with doors := s.evalDoors }) ⟨rfl, rfl, rfl, rfl, rfl, rfl, rfl, rfl⟩ (doorDeliveries_beside s0 _)

theorem endMask_beside (s : State) (d : Fin 4) : Beside s (endMask s d) := modDoor_beside _ _ s

theorem applyLists_beside (s0 s : State) : Beside s (applyLists s0 s) := by
  unfold applyLists
  exact (Beside.foldl endMask_beside _ s).trans ((doorEvalFrom_beside s0 _).trans (chimeOverrideChange_beside _ _))

theorem topicIf_beside (d : Bool) (t : Topic) (s : State) : Beside s (topicIf d t s) := by
  unfold topicIf
  split
  · exact raiseTopic_beside t s
  · exact .refl s

theorem pumpLink_beside (l : LinkId) (s : State) : Beside s (pumpLink l s) := by
  unfold pumpLink
  dsimp only
  split
  · exact .refl s
  · exact modLink_beside _ _ s
  · split
    · exact .refl s
    · exact modLink_beside _ _ s

theorem pumpLinks_beside (s : State) : Beside s (pumpLinks s) := (pumpLink_beside .display s).trans (pumpLink_beside .service _)

end Sys2Proof.Machine
end

