-- ==== Sys2Proof/Laws/Bytes.lean ====
section
/-!
SUPPORT. The sums and the fields of stored bytes: what a check byte does, and a field read back from the bytes of a number.
-/

namespace Sys2Proof.Machine

theorem sum8_fold (bs : List Byte) (n : Nat) :
    bs.foldl (fun acc b => acc + b.toNat) n = n + bs.foldl (fun acc b => acc + b.toNat) 0 := by
  induction bs generalizing n with
  | nil => simp
  | cons b bs ih => simp only [List.foldl_cons]; rw [ih, ih (0 + b.toNat)]; omega

/-- R219: the check byte makes the 8-bit sum 0. -/
theorem sum8_withCheck (bs : List Byte) : sum8 (withCheck bs) = 0 := by
  unfold withCheck sum8 checkByte byte1
  rw [List.foldl_append, sum8_fold]
  simp [sum8]
  omega

@[simp] theorem byte1_toNat (n : Nat) : (byte1 n).toNat = n % 256 := by simp [byte1]

/-- A 2-byte field read back. -/
theorem at2_bytes (a b : Nat) (rest : List Byte) : at2 (byte1 a :: byte1 b :: rest) 0 = a % 256 * 256 + b % 256 := by
  simp [at2, at1]

/-- R219: a 4-byte quantity is read back from its bytes. -/
theorem at4_put4 (n : Nat) (rest : List Byte) (h : n < 4294967296) : at4 (put4 n ++ rest) 0 = n := by
  simp [at4, at2, at1, put4]
  omega

end Sys2Proof.Machine
end

