-- ==== Sys2Proof/Laws/Near.lean ====
section
/-!
SUPPORT. What a close of service mode and the gauge frame leave alone: the Signal Table, the warnings, the Power
Controller, the timebase and the configuration state.
-/

namespace Sys2Proof.Machine

/-- An operation near which those blocks stand unchanged. -/
structure Near (s t : State) : Prop where
  sig : t.sig = s.sig
  warn : t.warn = s.warn
  power : t.power = s.power
  timebase : t.timebase = s.timebase
  cfgState : t.store.cfgState = s.store.cfgState
  source : t.store.source = s.store.source

theorem Near.refl (s : State) : Near s s := ⟨rfl, rfl, rfl, rfl, rfl, rfl⟩

theorem Near.trans {s t u : State} (h : Near s t) (k : Near t u) : Near s u :=
  ⟨k.sig.trans h.sig, k.warn.trans h.warn, k.power.trans h.power, k.timebase.trans h.timebase,
    k.cfgState.trans h.cfgState, k.source.trans h.source⟩

theorem Near.foldl {α : Type} {f : State → α → State} (hf : ∀ s a, Near s (f s a)) :
    (as : List α) → (s : State) → Near s (as.foldl f s)
  | [], s => .refl s
  | a :: as, s => (hf s a).trans (Near.foldl hf as (f s a))

theorem Beside.near {s t : State} (h : Beside s t) : Near s t :=
  ⟨h.sig, h.warn, h.power, h.timebase, h.cfgState, h.source⟩

theorem sweepEnd_near (g : Fin 6) (how : SweepRecord) (s : State) : Near s (sweepEnd g how s) := by
  unfold sweepEnd
  split
  · exact ⟨rfl, rfl, rfl, rfl, rfl, rfl⟩
  · exact .refl s

theorem deliverAbort_near (g : Fin 6) (before after : Gauge) (s : State) : Near s (deliverAbort g before after s) := by
  unfold deliverAbort
  split
  · exact sweepEnd_near _ _ s
  · exact .refl s

theorem modGauge_near (g : Fin 6) (f : Gauge → Gauge) (s : State) : Near s (s.modGauge g f) := ⟨rfl, rfl, rfl, rfl, rfl, rfl⟩
theorem modGauges_near (f : Gauge → Gauge) (s : State) : Near s (s.modGauges f) := ⟨rfl, rfl, rfl, rfl, rfl, rfl⟩

theorem closeSweep_near (s : State) (g : Fin 6) : Near s (closeSweep s g) := by
  unfold closeSweep
  split
  · exact (modGauge_near _ _ s).trans (deliverAbort_near _ _ _ _)
  · exact .refl s

theorem gaugeStep_near (s : State) (g : Fin 6) : Near s (gaugeStep s g) := by
  unfold gaugeStep
  dsimp only
  have h := fun (f : Gauge → Gauge) (a b : Gauge) => (modGauge_near g f s).trans (deliverAbort_near g a b _)
  split
  · split
    · exact (h _ _ _).trans ((sweepEnd_near _ _ _).trans (raiseTopic_beside _ _).near)
    · exact (h _ _ _).trans (raiseTopic_beside _ _).near
  · split
    · exact (h _ _ _).trans (sweepEnd_near _ _ _)
    · exact h _ _ _

theorem gaugeFrames_near (s : State) : Near s (gaugeFrames s) := by
  unfold gaugeFrames
  split
  · exact .refl s
  · exact (modGauges_near _ s).trans (Near.foldl gaugeStep_near _ _)

theorem gaugesPark_near (s : State) : Near s (gaugesPark s) := by
  unfold gaugesPark
  exact (modGauges_near Gauge.park s).trans (Near.foldl (fun _ _ => deliverAbort_near _ _ _ _) _ _)

theorem droppedAccess_near (p : Purpose) (s : State) : Near s (droppedAccess p s) := by
  unfold droppedAccess
  split <;> exact ⟨rfl, rfl, rfl, rfl, rfl, rfl⟩

theorem dropServiceAccess_near (s : State) : Near s (dropServiceAccess s) := by
  unfold dropServiceAccess
  split
  · split
    · refine Near.trans ?_ ((droppedAccess_near _ _).trans (answerHeld_beside _ _ _ _ _).near)
      exact ⟨rfl, rfl, rfl, rfl, rfl, rfl⟩
    · exact .refl s
  · exact .refl s

theorem closeService_near (cause : CloseCause) (s : State) : Near s (closeService cause s) := by
  unfold closeService
  split
  · refine Near.trans ?_ ((applyLists_beside s _).near.trans ((Near.foldl closeSweep_near _ _).trans
      ((dropServiceAccess_near _).trans (raiseTopic_beside _ _).near)))
    exact ⟨rfl, rfl, rfl, rfl, rfl, rfl⟩
  · exact .refl s

/-- With service mode CLOSED a close has no effect (R171). -/
theorem closeService_closed (cause : CloseCause) {s : State} (h : s.svc.isOpen = false) : closeService cause s = s := by
  unfold closeService
  simp [h]

theorem speedClose_near (s : State) : Near s (speedClose s) := by
  unfold speedClose
  split
  · exact closeService_near _ s
  · exact .refl s

end Sys2Proof.Machine
end

