-- ==== Sys2Proof/Laws/Commands.lean ====
section
/-!
SUPPORT. The end of a command and the admission of a request, said once: which links change, when the mode evaluation has
nothing to do, and what an admitted request comes to.
-/

namespace Sys2Proof.Machine

/-! ### Links -/

@[simp] theorem offLinks_modLink (s : State) (l : LinkId) (f : Link → Link) : (s.modLink l f).offLinks = s.offLinks := rfl
@[simp] theorem offLinks_raiseTopic (t : Topic) (s : State) : (raiseTopic t s).offLinks = s.offLinks := rfl
@[simp] theorem offLinks_placeReply (l : LinkId) (f : Frame) (s : State) : (placeReply l f s).offLinks = s.offLinks := rfl

@[simp] theorem offLinks_topicIf (d : Bool) (t : Topic) (s : State) : (topicIf d t s).offLinks = s.offLinks := by
  unfold topicIf
  split <;> rfl

@[simp] theorem offLinks_pumpLink (l : LinkId) (s : State) : (pumpLink l s).offLinks = s.offLinks := by
  unfold pumpLink
  dsimp only
  split
  · rfl
  · rfl
  · split <;> rfl

@[simp] theorem offLinks_pumpLinks (s : State) : (pumpLinks s).offLinks = s.offLinks := by simp [pumpLinks]

@[simp] theorem Link.raise_settings (t : Topic) (r : Link) : (r.raise t).settings = r.settings := by
  unfold Link.raise
  split <;> rfl

@[simp] theorem Link.raise_rx (t : Topic) (r : Link) : (r.raise t).rx = r.rx := by
  unfold Link.raise
  split <;> rfl

@[simp] theorem Link.raise_tx (t : Topic) (r : Link) : (r.raise t).tx = r.tx := by
  unfold Link.raise
  split <;> rfl

@[simp] theorem Link.raise_replies (t : Topic) (r : Link) : (r.raise t).replies = r.replies := by
  unfold Link.raise
  split <;> rfl

@[simp] theorem Link.raise_inFlight (t : Topic) (r : Link) : (r.raise t).inFlight = r.inFlight := by
  unfold Link.raise
  split <;> rfl

@[simp] theorem raiseTopic_outgoing (t : Topic) (s : State) (l : LinkId) : (raiseTopic t s).outgoing l = s.outgoing l := by
  simp [State.outgoing]

theorem topicIf_link (d : Bool) (t : Topic) (s : State) (l : LinkId) :
    ((topicIf d t s).link l).settings = (s.link l).settings ∧ ((topicIf d t s).link l).rx = (s.link l).rx ∧
      ((topicIf d t s).link l).inFlight = (s.link l).inFlight ∧ (topicIf d t s).outgoing l = s.outgoing l := by
  unfold topicIf
  split <;> simp

theorem placeReply_outgoing (l : LinkId) (f : Frame) (s : State) : (placeReply l f s).outgoing l = s.outgoing l ++ [f] := by
  simp [placeReply, State.outgoing]

theorem placeReply_settings (l k : LinkId) (f : Frame) (s : State) :
    ((placeReply l f s).link k).settings = (s.link k).settings := by
  unfold placeReply
  rw [State.modLink_link]
  split
  · next h => subst h; rfl
  · rfl

theorem placeReply_rx (l k : LinkId) (f : Frame) (s : State) : ((placeReply l f s).link k).rx = (s.link k).rx := by
  unfold placeReply
  rw [State.modLink_link]
  split
  · next h => subst h; rfl
  · rfl

/-- The transmitter keeps settings, the receiver and what waits in flight, and starts a report only where nothing else is to be sent. -/
theorem pumpLink_link (l k : LinkId) (s : State) :
    ((pumpLink l s).link k).settings = (s.link k).settings ∧ ((pumpLink l s).link k).rx = (s.link k).rx ∧
      ((pumpLink l s).link k).inFlight = (s.link k).inFlight ∧
      (s.outgoing k ≠ [] → (pumpLink l s).outgoing k = s.outgoing k) := by
  unfold pumpLink
  dsimp only
  by_cases h : k = l
  · subst h
    split
    · exact ⟨rfl, rfl, rfl, fun _ => rfl⟩
    · next h1 h2 => simp [State.outgoing, Link.settings, h1, h2]
    · next h1 h2 =>
      split
      · exact ⟨rfl, rfl, rfl, fun _ => rfl⟩
      · exact ⟨by simp [Link.settings], by simp, by simp, fun hn => absurd (by simp [State.outgoing, h1, h2]) hn⟩
  · split
    · exact ⟨rfl, rfl, rfl, fun _ => rfl⟩
    · simp [State.outgoing, State.modLink_other _ _ h]
    · split
      · exact ⟨rfl, rfl, rfl, fun _ => rfl⟩
      · simp [State.outgoing, State.modLink_other _ _ h]

theorem pumpLinks_link (k : LinkId) (s : State) :
    ((pumpLinks s).link k).settings = (s.link k).settings ∧ ((pumpLinks s).link k).rx = (s.link k).rx ∧
      ((pumpLinks s).link k).inFlight = (s.link k).inFlight ∧
      (s.outgoing k ≠ [] → (pumpLinks s).outgoing k = s.outgoing k) := by
  unfold pumpLinks
  obtain ⟨a1, r1, b1, c1⟩ := pumpLink_link .display k s
  obtain ⟨a2, r2, b2, c2⟩ := pumpLink_link .service k (pumpLink .display s)
  exact ⟨a2.trans a1, r2.trans r1, b2.trans b1, fun h => by rw [c2 (by rw [c1 h]; exact h), c1 h]⟩

/-! ### Mode evaluations with nothing to change -/

theorem stopOffTimer_eq {s : State} (h : s.power.offTimer = none) : stopOffTimer s = s := by
  cases s with
  | mk powered timebase freeCount eeprom sig speed gauges doors warn out fault svc store power links pending =>
    cases power
    simp only at h
    subst h
    rfl

theorem startOffTimer_eq {s : State} (h : s.power.offTimer.isSome = true) : startOffTimer s = s := by
  cases s with
  | mk powered timebase freeCount eeprom sig speed gauges doors warn out fault svc store power links pending =>
    cases power with
    | mk mode acc ign crank lineSettle supply supplyClass parkBrake offTimer parkTimer claim enables watchAcc watchIgn
        holdDemand lastReset lastWake =>
      obtain ⟨n, rfl⟩ := Option.isSome_iff_exists.1 h
      rfl

/-- R203: lines and supply that call for nothing change nothing. -/
theorem modeEval_settled {s : State} (h : ModeSettled s) : modeEval s = s := by
  unfold ModeSettled at h
  unfold modeEval
  split at h
  · next hm => simp only [hm, h, if_true]
  · next hm =>
    obtain ⟨h1, h2⟩ := h
    simp only [hm, h1, Bool.false_eq_true, if_false]
    split
    · next ha => rw [if_pos ha] at h2; exact stopOffTimer_eq h2
    · next ha => rw [if_neg ha] at h2; exact startOffTimer_eq h2
  · next hm =>
    obtain ⟨h1, h2⟩ := h
    unfold runRows
    simp only [hm, h1, Bool.false_eq_true, if_false]
    split
    · next hi => rw [if_pos hi] at h2; exact stopOffTimer_eq h2
    · next hi =>
      rw [if_neg hi] at h2
      simp only [h2.1, Bool.false_eq_true, if_false]
      exact startOffTimer_eq h2.2
  · next hm =>
    obtain ⟨h1, h2⟩ := h
    try simp only [hm]
    rw [if_neg]
    rcases h2 with h2 | ⟨h2, h3⟩
    · simp [h1, h2]
    · simp [h1, h2, h3]
  · next hm =>
    obtain ⟨h1, h2, h3⟩ := h
    simp only [hm, h1, h2, Bool.false_eq_true, if_false]
    unfold watchWhenReady State.mayWatch
    cases hc : s.power.claim with
    | none => rw [hc] at h3; cases h3
    | some n => simp
  · exact h.elim

theorem modeEvals_settled (n : Nat) {s : State} (h : ModeSettled s) : modeEvals n s = s := by
  induction n with
  | zero => rfl
  | succ n ih => rw [modeEvals, modeEval_settled h, ih]

theorem settleMode_settled (fuel : Nat) (before : Bool × Bool × Bool × Bool) {s : State} (h : ModeSettled s) :
    settleMode fuel before s = s := by
  induction fuel generalizing before with
  | zero => rfl
  | succ fuel ih =>
    unfold settleMode
    split
    · rfl
    · rw [modeEval_settled h]
      exact ih _

/-- What `ModeSettled` reads. -/
theorem ModeSettled.congr {s t : State} (hp : t.power = s.power) (hc : t.store.cfgState = s.store.cfgState)
    (h : ModeSettled s) : ModeSettled t := by
  unfold ModeSettled State.crankCondition at *
  rw [hp, hc]
  exact h

/-- The end of a command whose mode evaluations find nothing to change: only the links differ. -/
structure Ends (u t : State) : Prop where
  offLinks : t.offLinks = u.offLinks
  settings : ∀ k, (t.link k).settings = (u.link k).settings
  rx : ∀ k, (t.link k).rx = (u.link k).rx
  inFlight : ∀ k, (t.link k).inFlight = (u.link k).inFlight
  outgoing : ∀ k, u.outgoing k ≠ [] → t.outgoing k = u.outgoing k

theorem finish_ends_of (s0 : State) {u : State} (h : settleMode modeRounds s0.parkConditions u = u) : Ends u (finish s0 u) := by
  unfold finish
  simp only [h]
  generalize decide (u.powerItems ≠ s0.powerItems) = d1
  generalize decide (u.gaugeItems ≠ s0.gaugeItems) = d2
  refine ⟨by simp, fun k => ?_, fun k => ?_, fun k => ?_, fun k hk => ?_⟩
  · rw [(pumpLinks_link k _).1, (topicIf_link _ _ _ k).1, (topicIf_link _ _ _ k).1]
  · rw [(pumpLinks_link k _).2.1, (topicIf_link _ _ _ k).2.1, (topicIf_link _ _ _ k).2.1]
  · rw [(pumpLinks_link k _).2.2.1, (topicIf_link _ _ _ k).2.2.1, (topicIf_link _ _ _ k).2.2.1]
  · have e : (topicIf d1 .power (topicIf d2 .gauges u)).outgoing k = u.outgoing k := by
      rw [(topicIf_link _ _ _ k).2.2.2, (topicIf_link _ _ _ k).2.2.2]
    rw [(pumpLinks_link k _).2.2.2 (by rw [e]; exact hk), e]

theorem finish_settled (s0 : State) {u : State} (h : ModeSettled u) : Ends u (finish s0 u) :=
  finish_ends_of s0 (settleMode_settled _ _ h)

theorem finish_calm {s0 u : State} (h : u.parkConditions = s0.parkConditions) : Ends u (finish s0 u) := by
  refine finish_ends_of s0 ?_
  unfold modeRounds settleMode
  rw [if_pos h]

/-! ### Requests -/

theorem Admits.awake {l : LinkId} {s : State} (h : Admits l s) : s.powered = true ∧ s.power.mode ≠ .watch := by
  have := h.1
  simpa [State.awake] using this

@[simp] theorem hunting_offLinks (s : State) (l : LinkId) : (s.hunting l).offLinks = s.offLinks := rfl
@[simp] theorem hunting_awake (s : State) (l : LinkId) : (s.hunting l).awake = s.awake := rfl
@[simp] theorem hunting_parkConditions (s : State) (l : LinkId) : (s.hunting l).parkConditions = s.parkConditions := rfl

@[simp] theorem hunting_link (s : State) (l k : LinkId) :
    (s.hunting l).link k = if k = l then { s.link l with rx := [] } else s.link k := State.modLink_link s l k _

/-- What an accepted frame does to the links: its own link's receiver is in HUNT. -/
@[simp] theorem heard_link (s : State) (l k : LinkId) :
    (s.heard l).link k = if k = l then { s.link l with rx := [] } else s.link k := by
  rw [← hunting_link]
  unfold State.heard resetSilence
  split <;> rfl

theorem heard_accepted (s : State) (l : LinkId) : Accepted l s (s.heard l) :=
  ⟨by simp, fun k h => by simp [h]⟩

@[simp] theorem heard_settings (s : State) (l k : LinkId) : ((s.heard l).link k).settings = (s.link k).settings := by
  rw [heard_link]
  split
  · next h => subst h; rfl
  · rfl

@[simp] theorem heard_store (s : State) (l : LinkId) : (s.heard l).store = s.store := by
  unfold State.heard resetSilence
  split <;> rfl

@[simp] theorem heard_isOpen (s : State) (l : LinkId) : (s.heard l).svc.isOpen = s.svc.isOpen := by
  unfold State.heard resetSilence
  split <;> rfl

@[simp] theorem heard_parkConditions (s : State) (l : LinkId) : (s.heard l).parkConditions = s.parkConditions := by
  unfold State.heard resetSilence
  split <;> rfl

@[simp] theorem heard_outgoing (s : State) (l k : LinkId) : (s.heard l).outgoing k = s.outgoing k := by
  simp only [State.outgoing, heard_link]
  split
  · next h => subst h; rfl
  · rfl

/-- R213: a request that passes tests 1 to 6 is its owner's. -/
theorem onRequest_admitted {l : LinkId} {code tag : Byte} {owner : State → Served} {s : State} {p : Permit} (h : Admits l s)
    (hc : catalogue code.toNat = some p) (hl : p.allows l = true)
    (ho : l = .service → needsService code.toNat = true → s.svc.isOpen = true) :
    onRequest l code tag owner s = finish s (placeAnswer l code tag (owner (s.heard l))) := by
  obtain ⟨h1, h2, h3, h4⟩ := h
  obtain ⟨hp, hm⟩ := Admits.awake ⟨h1, h2, h3, h4⟩
  unfold onRequest onFrame
  rw [if_pos hp, if_neg hm]
  change finish s (takeRequest l code tag (some owner) (s.heard l)) = _
  unfold takeRequest
  have e1 : ((s.heard l).link l).inFlight.isSome = false := by simp [h3]
  have e2 : ¬ ((s.heard l).link l).replies.length ≥ replyPlaces := by simp; omega
  have e3 : ¬ ((s.heard l).store.cfgState = .preloading ∧ code ≠ 0x20#8) := by simp [h2]
  simp only [e1, Bool.false_eq_true, if_false, if_neg e2, if_neg e3]
  unfold serveRequest
  simp only [hc, hl, Bool.not_true, Bool.false_eq_true, if_false]
  rw [if_neg]
  rintro ⟨a, b, c⟩
  have := ho a b
  simp [this] at c

/-- An admitted request that its owner answers at once, with no change of a parking condition or with the mode settled. -/
theorem request_now {c : Instr} {l : LinkId} {code tag : Byte} {owner : State → Served} {s v : State} {st : Status}
    {fields : List Byte} {r : Bool} (hx : exec c s = .next (finish s (placeAnswer l code tag (owner (s.heard l)))))
    (hv : owner (s.heard l) = { state := v, answer := .now st fields r })
    (hp : v.parkConditions = s.parkConditions ∨ ModeSettled v)
    (ho : v.outgoing l = s.outgoing l) (hr : Accepted l s v) (hs : ∀ k, (v.link k).settings = (s.link k).settings) :
    ∃ t, exec c s = .next t ∧ Placed l (replyFrame code tag st fields r) s t ∧ Accepted l s t ∧
      t.offLinks = v.offLinks := by
  rw [hv] at hx
  refine ⟨_, hx, ?_⟩
  have he : Ends (placeReply l (replyFrame code tag st fields r) v)
      (finish s (placeReply l (replyFrame code tag st fields r) v)) := by
    rcases hp with hp | hp
    · exact finish_calm hp
    · exact finish_settled s (ModeSettled.congr rfl rfl hp)
  change Placed l _ s (finish s (placeReply l _ v)) ∧ Accepted l s (finish s (placeReply l _ v)) ∧
    (finish s (placeReply l _ v)).offLinks = _
  have hn : (placeReply l (replyFrame code tag st fields r) v).outgoing l ≠ [] := by simp [placeReply_outgoing]
  refine ⟨⟨?_, fun k => ?_⟩, ⟨?_, fun k hk => ?_⟩, he.offLinks⟩
  · rw [he.outgoing l hn, placeReply_outgoing, ho]
  · rw [he.settings k, placeReply_settings, hs k]
  · rw [he.rx l, placeReply_rx, hr.1]
  · rw [he.rx k, placeReply_rx, hr.2 k hk]

/-- An event of the running part with no change of a parking condition or with the mode settled after it. -/
theorem whenAwake_ends {f : State → State} {s : State} (ha : s.awake = true)
    (hp : (f s).parkConditions = s.parkConditions ∨ ModeSettled (f s)) : Ends (f s) (whenAwake f s) := by
  unfold whenAwake
  rw [if_pos ha]
  rcases hp with hp | hp
  · exact finish_calm hp
  · exact finish_settled s hp

end Sys2Proof.Machine
end

