-- ==== Sys2Proof/Laws/Filed.lean ====
section
/-!
SUPPORT. What filing a fault notice or handing a store access changes: the fault memory, the store's queue, the writer's marks
of the odometer and the topic flags of the links, and nothing else.
-/

namespace Sys2Proof.Machine

/-- Two states that differ in the filing alone, with the same traffic on the links. -/
structure Filed (s t : State) : Prop where
  rest : t.offFiling = s.offFiling
  traffic : ∀ k, (t.link k).traffic = (s.link k).traffic

theorem Filed.refl (s : State) : Filed s s := ⟨rfl, fun _ => rfl⟩

theorem Filed.trans {s t u : State} (h : Filed s t) (k : Filed t u) : Filed s u :=
  ⟨k.rest.trans h.rest, fun l => (k.traffic l).trans (h.traffic l)⟩

theorem Filed.foldl {α : Type} {f : State → α → State} (hf : ∀ s a, Filed s (f s a)) :
    (l : List α) → (s : State) → Filed s (l.foldl f s)
  | [], s => .refl s
  | a :: l, s => (hf s a).trans (Filed.foldl hf l (f s a))

@[simp] theorem Link.raise_traffic (t : Topic) (r : Link) : (r.raise t).traffic = r.traffic := by
  unfold Link.raise
  split <;> rfl

theorem raised_filed (t : Topic) {s u : State} (h : u.offFiling = s.offFiling) (hl : u.links = s.links) :
    Filed s (raiseTopic t u) := by
  refine ⟨h, fun k => ?_⟩
  rw [raiseTopic_link, Link.raise_traffic]
  unfold State.link
  rw [hl]

theorem raiseTopic_filed (t : Topic) (s : State) : Filed s (raiseTopic t s) := raised_filed t rfl rfl

theorem addItem_filed (item : WriterItem) (s : State) : Filed s (addItem item s) := by
  unfold addItem
  split
  · exact .refl s
  · exact ⟨rfl, fun _ => rfl⟩

theorem recordPump_filed (s : State) : Filed s (recordPump s) := by
  unfold recordPump
  split
  · exact ⟨rfl, fun _ => rfl⟩
  · exact .refl s

theorem withdrawScheduled_filed (s : State) : Filed s (withdrawScheduled s) := by
  unfold withdrawScheduled
  split
  · exact ⟨rfl, fun _ => rfl⟩
  · exact .refl s

theorem withdrawFaultItems_filed (s : State) : Filed s (withdrawFaultItems s) := ⟨rfl, fun _ => rfl⟩

theorem beginFaultPart_filed (s : State) : Filed s (beginFaultPart s) := by
  unfold beginFaultPart
  split
  · split <;> exact ⟨rfl, fun _ => rfl⟩
  · exact .refl s

theorem handPark_filed (p : Purpose) (s : State) : Filed s
    { s with store := { s.store with waiting := { s.store.waiting with parkFlush := some p } } } := ⟨rfl, fun _ => rfl⟩

theorem parkPump_filed (s : State) : Filed s (parkPump s) := by
  unfold parkPump
  dsimp only
  refine (beginFaultPart_filed s).trans ?_
  generalize beginFaultPart s = t
  split
  · exact .refl t
  · split
    · exact handPark_filed .parkOdo t
    · split
      · split
        · next item rest _ =>
          exact Filed.trans (t := { t with fault := { t.fault with partItems := rest } })
            ⟨rfl, fun _ => rfl⟩ (handPark_filed (.parkItem item) _)
        · exact .refl t
      · exact .refl t

theorem fly_filed (a : Access) (s : State) : Filed s (fly a s) := ⟨rfl, fun _ => rfl⟩

theorem endParking_filed (s : State) : Filed s { s with speed := s.speed.endParking } := by
  unfold SpeedUnit.endParking
  split
  · exact ⟨rfl, fun _ => rfl⟩
  · exact ⟨rfl, fun _ => rfl⟩

theorem startAccess_filed (p : Purpose) (s : State) : Filed s (startAccess p s) := by
  unfold startAccess
  split
  all_goals try exact ⟨rfl, fun _ => rfl⟩
  split
  · exact endParking_filed s
  · exact ⟨rfl, fun _ => rfl⟩

theorem storePump_filed (fuel : Nat) (s : State) : Filed s (storePump fuel s) := by
  induction fuel generalizing s with
  | zero => exact .refl s
  | succ fuel ih =>
    unfold storePump
    dsimp only
    refine ((parkPump_filed s).trans (recordPump_filed (parkPump s))).trans ?_
    generalize recordPump (parkPump s) = t
    split
    · exact .refl t
    · split
      · exact .refl t
      · next p rest hp =>
        have h : Filed t (startAccess p { t with store := { t.store with waiting := rest } }) := by
          refine Filed.trans ?_ (startAccess_filed p _)
          exact ⟨rfl, fun _ => rfl⟩
        split
        · exact h
        · exact h.trans (ih _)

theorem handLinkAccess_filed (l : LinkId) (p : Purpose) (s : State) : Filed s (handLinkAccess l p s) := by
  unfold handLinkAccess
  dsimp only
  refine Filed.trans ?_ (storePump_filed _ _)
  exact ⟨rfl, fun _ => rfl⟩

theorem createAt_filed (p : Fin 32) (r : FaultRec) (s : State) : Filed s (createAt p r s) := by
  unfold createAt
  dsimp only
  have mark : ∀ m : FaultMemory, Filed s (raiseTopic .faults { s with fault := m }) :=
    fun _ => raised_filed _ rfl rfl
  split
  · exact (mark _).trans ((addItem_filed (.position p) _).trans ((addItem_filed .header _).trans (storePump_filed _ _)))
  · exact mark _

theorem takePresent_filed (c : FaultCode) (f : Freeze) (x : Option (Nat × Nat)) (s : State) :
    Filed s (takePresent c f x s) := by
  unfold takePresent
  split
  · split
    · exact .refl s
    · split
      · exact .refl s
      · exact raised_filed _ rfl rfl
  · split
    · exact createAt_filed _ _ s
    · split
      · exact createAt_filed _ _ s
      · dsimp only
        split
        · exact ⟨rfl, fun _ => rfl⟩
        · exact raised_filed _ rfl rfl

theorem takeCleared_filed (c : FaultCode) (s : State) : Filed s (takeCleared c s) := by
  unfold takeCleared
  split
  · exact .refl s
  · split
    · exact .refl s
    · split
      · exact raised_filed _ rfl rfl
      · exact .refl s

theorem faultPresent_filed (c : FaultCode) (x : Option (Nat × Nat)) (s : State) : Filed s (faultPresent c x s) := by
  unfold faultPresent
  split
  · exact ⟨rfl, fun _ => rfl⟩
  · exact takePresent_filed _ _ _ s

theorem faultCleared_filed (c : FaultCode) (s : State) : Filed s (faultCleared c s) := by
  unfold faultCleared
  split
  · exact ⟨rfl, fun _ => rfl⟩
  · exact takeCleared_filed _ s

theorem takeNotices_filed (ns : List Notice) (s : State) : Filed s (takeNotices ns s) := by
  unfold takeNotices
  exact Filed.foldl (fun s n => by
    split
    · exact faultPresent_filed _ _ s
    · exact faultCleared_filed _ s) ns s

theorem agePosition_filed (s : State) (p : Fin 32) : Filed s (agePosition s p) := by
  unfold agePosition
  split
  · exact .refl s
  · split
    · exact .refl s
    · dsimp only
      split <;> exact raised_filed _ rfl rfl

theorem ageFaults_filed (s : State) : Filed s (ageFaults s) := Filed.foldl agePosition_filed _ s

theorem takeHeld_filed (s : State) (h : HeldNotice) : Filed s (takeHeld s h) := by
  unfold takeHeld
  dsimp only
  split
  · exact (takePresent_filed _ _ _ s).trans (takeCleared_filed _ _)
  · exact takePresent_filed _ _ _ s

theorem takeHeldNotices_filed (s : State) : Filed s (takeHeldNotices s) := by
  unfold takeHeldNotices
  exact Filed.trans (t := { s with fault := { s.fault with held := [] } }) ⟨rfl, fun _ => rfl⟩
    (Filed.foldl takeHeld_filed _ _)


/-! ### From an ended command to the statements' terms -/

/-- A command's end keeps the traffic that its effect kept. -/
theorem SameTraffic.of {s u t : State} (h : Ends u t)
    (hl : ∀ k, (u.link k).settings = (s.link k).settings ∧ (u.link k).rx = (s.link k).rx ∧
      (u.link k).inFlight = (s.link k).inFlight ∧ u.outgoing k = s.outgoing k) : SameTraffic s t := by
  intro k
  obtain ⟨a, r, b, c⟩ := hl k
  exact ⟨(h.settings k).trans a, (h.rx k).trans r, (h.inFlight k).trans b, fun hn => (h.outgoing k (by rw [c]; exact hn)).trans c⟩

/-- An event whose effect leaves the part as `u`, apart from the links, and the links' traffic as it was. -/
theorem does_of {c : Instr} {s : State} {f : State → State} {u : State} (hx : exec c s = .next (whenAwake f s))
    (ha : s.awake = true) (hf : (f s).offLinks = u.offLinks) (hl : ∀ k, ((f s).link k).traffic = (s.link k).traffic)
    (hp : (f s).parkConditions = s.parkConditions ∨ ModeSettled (f s)) : Does c s u := by
  have he := whenAwake_ends (f := f) ha hp
  refine ⟨_, hx, SameTraffic.of he (fun k => ?_), he.offLinks.trans hf⟩
  have := hl k
  simp only [Link.traffic, Prod.mk.injEq] at this
  obtain ⟨a, b, c, d, e, f, g⟩ := this
  refine ⟨?_, a, b, ?_⟩
  · simp only [Link.settings, e, f, g]
  · simp only [State.outgoing, c, d]

end Sys2Proof.Machine
end

