-- ==== Sys2Proof/Laws/Image.lean ====
section
/-!
SUPPORT. An image without a failure passes each of its checks (R193), so that each item it gives lies in its range.
-/

namespace Sys2Proof.Machine

theorem firstFailure_eq_none {cs : List (Bool × ImageFailure)} : firstFailure cs = none ↔ ∀ c ∈ cs, c.1 = false := by
  simp [firstFailure]

theorem itemOver_false {sect item n : Nat} {fails : Nat → Bool} (h : ∀ c ∈ itemOver sect item n fails, c.1 = false) {i : Nat}
    (hi : i < n) : fails i = false :=
  h _ (List.mem_map.2 ⟨i, List.mem_range.2 hi, rfl⟩)

/-- R193: an image without a failure passes every check of every section. -/
theorem imageFailure_eq_none {img : Nat → Byte} (h : imageFailure img = none) :
    ∀ c ∈ headerChecks img ++ (signalChecks img ++ speedChecks img ++ gaugeChecks img ++ doorwayChecks img ++
      warningChecks img ++ outputChecks img ++ powerChecks img), c.1 = false := by
  unfold imageFailure at h
  split at h
  · cases h
  · rename_i hh
    intro c hc
    rcases List.mem_append.1 hc with hc | hc
    · exact firstFailure_eq_none.1 hh c hc
    · exact firstFailure_eq_none.1 h c hc

/-- R131: the trip thresholds of an image without a failure are 1 to 127. -/
theorem imageTrip_range {img : Nat → Byte} (h : imageFailure img = none) {l : Nat} (hl : l < 16) :
    1 ≤ imageTrip img l ∧ imageTrip img l ≤ 127 := by
  have hs : ∀ c ∈ itemOver 6 2 16 (fun l => decide (imageTrip img l < 1) || decide (imageTrip img l > 127)), c.1 = false :=
    fun c hc => by
      have hm : c ∈ outputChecks img := by
        unfold outputChecks
        exact List.mem_append_left _ (List.mem_append_left _ (List.mem_append_left _ (List.mem_append_right _ hc)))
      exact imageFailure_eq_none h c
        (List.mem_append_right _ (List.mem_append_left _ (List.mem_append_right _ hm)))
  have := itemOver_false hs hl
  simp at this
  omega

/-- R131: the trip thresholds that the blocks take at the end of the preload are above 0. -/
theorem tripAt_pos {img : Nat → Byte} {c : BlockConfig}
    (h : c = if imageFailure img = none then imageConfig img else defaultConfig) (l : Fin 16) : 1 ≤ c.tripAt[l] := by
  subst h
  split
  · rename_i hi
    simpa [imageConfig] using (imageTrip_range hi l.isLt).1
  · simp [defaultConfig]

end Sys2Proof.Machine
end

