-- ==== Sys2Proof/Tests/Slice0.lean ====
section
/-!
SUPPORT. Tests: the WellFormed smoke, commands checked against the manual's worked examples and rules, and for every
statement with hypotheses a state that meets them, clause by clause.
-/

namespace Sys2Proof.Tests

open Sys2Proof Sys2Proof.Machine

/-! ### WellFormed: one ill-formed term for each check -/

theorem smoke_line_declaration : (Instr.lineDeclaration 38).wellFormed = false := by decide
theorem smoke_line_clearing : (Instr.lineClearing 39).wellFormed = false := by decide
theorem smoke_open_state_change : (Instr.openStateChange 12).wellFormed = false := by decide
theorem smoke_frame_accepted : (Instr.frameAccepted .display 1 0x20 0 (List.replicate 121 0)).wellFormed = false := by decide
theorem smoke_feed : (Instr.feed .display 0 (List.replicate 40 (0, 0))).wellFormed = false := by decide
theorem smoke_feed_warn : (Instr.feedWarn .display 0 (List.replicate 60 (0, 0))).wellFormed = false := by decide
theorem smoke_lamp_set : (Instr.lampSet .display 0 (List.replicate 60 (0, 0))).wellFormed = false := by decide
theorem smoke_store_write : (Instr.storeWrite .display 0 4 0 (List.replicate 117 0)).wellFormed = false := by decide
theorem smoke_config_put : (Instr.configPut .service 0 0 (List.replicate 118 0)).wellFormed = false := by decide
theorem smoke_largest_spans : (Instr.storeWrite .display 0 4 0 (List.replicate 96 0)).wellFormed = true := by decide

/-! ### States to test on -/

/-- The state after a command; without supply where it did not complete. -/
def after (c : Instr) (s : State) : State :=
  match exec c s with
  | .next t => t
  | _ => { s with powered := false }

/-- RUN, READY, settled at standstill, with everything idle, no doorway configured and all links silent. -/
def run0 : State :=
  { State.reset with
    speed := { SpeedUnit.init with loaded := true, pulseConst := some 8000, settled := true }
    doors :=
      { DoorwayMonitor.init with
        door := Vector.replicate 4 { Doorway.init .none with configured := some false, state := .disabled, resense := 10 }
        brakeMoving := false, diDemand := false }
    out := { OutputUnit.init with holdOut := true }
    fault := { FaultMemory.init with loading := false, loaded := true }
    store := { StoreController.init with cfgState := .ready, source := some .store }
    power :=
      { PowerController.init .powerOn .none with
        mode := .run, ign := { level := true, count := 0 }, lineSettle := none, supply := 24400, supplyClass := .normal } }

/-- `run0` with service mode open. -/
def serv0 : State := { run0 with svc := { ServiceUnit.init with isOpen := true, silence := some 4000 } }

/-- `run0` with another power mode and lines. -/
def mode0 (m : PowerMode) (ign acc : Bool) : State :=
  { run0 with power := { run0.power with mode := m, ign := { level := ign, count := 0 }, acc := { level := acc, count := 0 } } }

/-- WATCH with every wake source enabled or none. -/
def watch0 (on : Bool) : State :=
  { run0 with
    out := OutputUnit.init
    power := { run0.power with
      mode := .watch, ign := LineFilter.init, holdDemand := false, enables := some { key := on, handle := on, link := on } } }

theorem run0_settled : ModeSettled run0 := ⟨by decide, by decide⟩
theorem serv0_settled : ModeSettled serv0 := ⟨by decide, by decide⟩
theorem run0_current : Current run0 := ⟨by decide, by decide⟩
theorem run0_idle : StoreIdle run0 := ⟨by decide, by decide, by decide, by decide, by decide⟩
theorem run0_admits : Admits .display run0 ∧ Admits .service run0 ∧ Admits .service serv0 :=
  ⟨⟨by decide, by decide, by decide, by decide⟩, ⟨by decide, by decide, by decide, by decide⟩,
    ⟨by decide, by decide, by decide, by decide⟩⟩
theorem run0_memory : MemoryOk run0 := ⟨by decide, by decide⟩


/-! ### Commands against the manual's examples and rules -/

/-- A channel's configuration: active high, threshold 4, unmonitored. -/
def plainChan : ChanCfg :=
  { activeLow := false, count := 4, diag := false, gndMax := none, openLo := none, openHi := none, batMin := none,
    policy := .hold, role := none }

/-- SW8's windows of the example in 1.13. -/
def doorChan : ChanCfg :=
  { activeLow := false, count := 10, diag := true, gndMax := some 200, openLo := some 1800, openHi := some 2300,
    batMin := some 3900, policy := .forceOff, role := some (.closed 1) }

/-- Inputs with every line quiet, IGN on and 24,400 mV at AN7. -/
def quiet : SampleInputs :=
  { switches := 0, sense := Vector.replicate 30 1000, analogue := Vector.ofFn (fun i => if i.val = 7 then 3050 else 0),
    handles := 0, acc := false, ign := true, crank := false, currents := Vector.replicate 16 0 }

def withChan (i : Fin 40) (c : Channel) (s : State) : State := s.modChan i (fun _ => c)

/-- 1.13, "Switch filter, threshold 4", sample 6 (here active high). -/
theorem test_switch_filter_last : (after (.sampleEvent { quiet with switches := 8 })
    (withChan 3 { Channel.init with cfg := some plainChan, filterCount := 3 } run0)).sig.chan[(3 : Fin 40)] =
    { Channel.init with cfg := some plainChan, raw := 1, filterCount := 4, filterOut := 1, value := 1 } := by decide +kernel

/-- 1.13, "Analogue average, shift 2": 990 from 1003. -/
theorem test_average : averageStep 2 1003 1000 = 1001 ∧ averageStep 2 990 1003 = 1000 ∧ averageStep 2 990 1000 = 998 := by decide

/-- SW8 as the 49th sample of the broken wire leaves it. -/
def brokenWire : State :=
  withChan 8
    { Channel.init with
      cfg := some doorChan, cond := .normal, qual := 49, cand := some .openLine, value := 1
      filterOut := 1, filterCount := 10, raw := 1, sense := 2050 } run0

/-- 1.13, sample 50: OPEN is declared, the value is FORCE_OFF's and the record is made. -/
theorem test_line_declaration : (after (.lineDeclaration 8) brokenWire).sig.chan[(8 : Fin 40)].cond = .openLine ∧
    (after (.lineDeclaration 8) brokenWire).sig.chan[(8 : Fin 40)].value = 0 ∧
    (after (.lineDeclaration 8) brokenWire).warn.marker[(8 : Fin 40)] = true ∧
    (after (.lineDeclaration 8) brokenWire).fault.record[(0 : Fin 32)].map (fun r => (r.code.index, r.active, r.count)) =
      some (8, true, 1) := by decide

/-- R12: the 50th NORMAL sample clears, and the value is the filter output again. -/
theorem test_line_clearing : (after (.lineClearing 8) (withChan 8
    { Channel.init with cfg := some doorChan, cond := .openLine, qual := 49, cand := some .normal, value := 0, filterOut := 1 }
    run0)).sig.chan[(8 : Fin 40)] =
    { Channel.init with cfg := some doorChan, cond := .normal, value := 1, filterOut := 1 } := by decide

def holding (h : SignalHold) (c : LineCond) : State :=
  { run0 with sig := { (run0.modChan 15 (fun _ => { Channel.init with cfg := some doorChan, cond := c })).sig with hold := h } }

/-- 1.13, "A crank cuts a count short", the settle's expiry. -/
theorem test_signal_settle_expiry : (after .signalSettleExpiry
    (holding (.settle 200) .suspended)).sig = (holding .none .normal).sig := by decide

/-- 2.8, "Speed through a stop": the ring of 9 edges. -/
def stopRing : List Word := (List.range 9).map (fun i => BitVec.ofNat 32 (1000000 + 9000 * i))
def rolling (moving : Bool) : State :=
  { run0 with speed := { run0.speed with pu0 := { EdgeCapture.init with ring := stopRing }, moving := moving } }

theorem test_speed_steady : (after (.gaugeFrame 1080000) (rolling false)).speed.estimate = 5000 ∧
    (after (.gaugeFrame 1080000) (rolling false)).speed.moving = true ∧
    (after (.gaugeFrame 1080000) (rolling false)).sig.chan[(38 : Fin 40)].value = 5000 := by decide
theorem test_speed_decays : (after (.gaugeFrame 1100000) (rolling true)).speed.estimate = 1607 ∧
    (after (.gaugeFrame 1240000) (rolling true)).speed.estimate = 267 ∧
    (after (.gaugeFrame 1240000) (rolling true)).speed.moving = false ∧
    (after (.gaugeFrame 2000000) (rolling true)).speed.estimate = 0 ∧
    (after (.gaugeFrame 2080000) (rolling true)).speed.pu0.ring = [] := by decide

/-- 2.8, "Spare rate on PU1". -/
theorem test_spare_rate : rateEstimate 21000 ((List.range 9).map (fun i => BitVec.ofNat 32 (2500 * i))) = 4000 := by decide

/-- R27: a clean high sample with threshold 2. -/
theorem test_edge_sample : (after (.edgeSample true false 40) run0).speed.pu0 = { EdgeCapture.init with count := 1 } ∧
    (after (.edgeSample true false 40) run0).timebase = 40 := by decide

def thousands (first n : Nat) : List Word := (List.range n).map (fun i => BitVec.ofNat 32 (1000 * (first + i)))

/-- R28: the tenth reading drops the oldest, and the period is the raw reading. -/
theorem test_filtered_edge : (after (.filteredEdge .pu1 30000)
    { run0 with speed := { run0.speed with pu1 := ⟨1, false, thousands 12 9, some 20000⟩ } }).speed.pu1 =
    ⟨2, true, thousands 13 8 ++ [30000], some 30000⟩ ∧
    (after (.filteredEdge .pu1 30000)
      { run0 with speed := { run0.speed with pu1 := { EdgeCapture.init with count := 1, last := some 20000 } } }).sig.chan[(39 : Fin 40)].raw
      = 10000 := by decide

/-- 2.8, "An increment that queues a scheduled write". -/
def beforeTenth : State :=
  { run0 with speed := { run0.speed with
      accumulator := 799, working := 1234567, stored := 1234558, nextSlot := 2, tripA := 99999, tripB := 412 } }

theorem test_increment : (after .odometerIncrement beforeTenth).speed.accumulator = 0 ∧
    (after .odometerIncrement beforeTenth).speed.working = 1234568 ∧ (after .odometerIncrement beforeTenth).speed.tripA = 0 ∧
    (after .odometerIncrement beforeTenth).speed.tripB = 413 ∧
    (after .odometerIncrement beforeTenth).store.inFlight.map (fun a => (a.offset, a.bytes.take 5)) =
      some (32, [0x00#8, 0x12#8, 0xD6#8, 0x88#8, 0x90#8]) := by decide

/-- 2.8, "Loading after a torn write": the largest of the valid slots 0, 1 and 3, the next slot 2. -/
theorem test_loading : (SpeedUnit.init.load (some (slotBytes 1234540 ++ slotBytes 1234550 ++
    (0xAA#8 :: (slotBytes 1234520).drop 1) ++ slotBytes 1234530))).working = 1234550 ∧
    (SpeedUnit.init.load (some (slotBytes 1234540 ++ slotBytes 1234550 ++
    (0xAA#8 :: (slotBytes 1234520).drop 1) ++ slotBytes 1234530))).nextSlot = 2 := by decide

/-- The speedometer of 3.9. -/
def speedo : GaugeCfg :=
  { source := .channel 38, offset := 0, gain := 512, loLimit := 0, hiLimit := 6000, loSet := 0, hiSet := 6100,
    points := [(0, 0), (2000, 1200), (6000, 4000), (6100, 4060)], sweep := 4100, damping := 4, slew := 40, divider := 1,
    enabled := true }
def withGauge (g : Fin 6) (G : Gauge) (s : State) : State := s.modGauge g (fun _ => G)
def tracking (target position : Nat) : Gauge :=
  { Gauge.init with active := some speedo, state := .tracking, known := true, target := target, position := position }

/-- 3.9, "The speedometer at a steady 51.23 km/h", "Over the end of the scale" and the negative and falling examples. -/
theorem test_pipeline : stage1 speedo 5123 = 2562 ∧ stage2 speedo.points 2562 = 1593 ∧ stage3 4 1593 1500 = 1523 ∧
    stage3 4 1593 1570 = 1575 ∧ stage4 40 1490 1523 = 1523 ∧ stage1 speedo 13000 = 6100 ∧ stage2 speedo.points 6100 = 4060 ∧
    stage1 { speedo with offset := 300, gain := 1024 } 100 = 0 ∧ stage2 [(0, 1000), (4000, 0)] 2 = 999 ∧
    stage2 [(0, 0), (4000, 1000)] 2 = 1 := by decide

/-- 3.9, the second frame: from target 1523 and position 1523 to 1540 (channel 38 is forced to 5123). -/
theorem test_gauge_frame : ((after (.gaugeFrame 0)
    { (withGauge 0 (tracking 1523 1523) run0) with svc := { ServiceUnit.init with forces := [(38, 5123)] } }).gauges.gauge[(0 : Fin 6)]).target
    = 1540 ∧ ((after (.gaugeFrame 0)
    { (withGauge 0 (tracking 1523 1523) run0) with svc := { ServiceUnit.init with forces := [(38, 5123)] } }).gauges.gauge[(0 : Fin 6)]).position
    = 1540 := by decide

/-- 3.9, "Homing after POWER-ON", frame 43. -/
theorem test_homing_end : (after (.homingEnd 0) (withGauge 0
    { Gauge.init with active := some speedo, state := .homing, homing := 100, homingDrive := 4300 } run0)).gauges.gauge[(0 : Fin 6)] =
    { Gauge.init with active := some speedo, state := .tracking, known := true, homing := 0, homingDrive := 4300 } := by decide

/-- 3.9, "A fed gauge loses its feed", frame 50. -/
theorem test_feed_stale : (after (.feedStale 5) (withGauge 5
    { (tracking 1800 1800) with active := some { speedo with source := .fed, loSet := 7 }, feedAge := 980, face := 5000 }
    run0)).gauges.gauge[(5 : Fin 6)].face = 7 := by decide

/-- 3.9, "A crank during a sweep", the settle's expiry. -/
theorem test_crank_hold_expiry : ((after .crankHoldExpiry
    { (withGauge 1 { (tracking 4100 2400) with state := .held, phase := .up } run0) with gauges :=
      { (withGauge 1 { (tracking 4100 2400) with state := .held, phase := .up } run0).gauges with hold := .settle 0 } }).gauges.gauge[(1 : Fin 6)]).state
    = .sweep := by decide

/-- A READY bus of four configured doorways that are LOCKED by forced role channels. -/
def roleChan (r : Role) (v : Nat) : Channel := { Channel.init with cfg := some { plainChan with role := some r }, value := v }
def doorway (state : DoorState) (phase : ReleasePhase) (out : Bool) : Doorway :=
  { Doorway.init phase with configured := some true, state := state, resense := 10,
                            sense := { raw := out, count := if out then 10 else 0, out := out } }
def withDoor (d : Fin 4) (D : Doorway) (s : State) : State := s.modDoor d (fun _ => D)
def doorBus (closed locked : Nat) (D : Doorway) : State :=
  withDoor 2 D (withChan 9 (roleChan (.locked 2) locked) (withChan 8 (roleChan (.closed 2) closed) run0))

/-- 4.6, "Emergency release": the pull. -/
theorem test_handle_change : ((after (.handleChange 2) (doorBus 1 1
    { (doorway .locked .none false) with sense := { raw := true, count := 9, out := false } })).doors.door[(2 : Fin 4)]).phase = .pulled ∧
    (after (.handleChange 2) (doorBus 1 1
      { (doorway .locked .none false) with sense := { raw := true, count := 9, out := false } })).doors.dbDemand = true := by decide

/-- 4.6, "A RESTART during a pending release": the tenth sensed sample. -/
theorem test_resense_done : ((after (.resenseDone 2) (doorBus 1 1
    { (doorway .released .pulled false) with resense := 9, sense := { raw := true, count := 9, out := false } })).doors.door[(2 : Fin 4)]).sense
    = { raw := true, count := 10, out := true } := by decide

/-- 4.6, "A lock switch reading engaged on an open door", the expiry. -/
theorem test_contradiction_expiry : ((after (.contradictionExpiry 2) (doorBus 0 1
    { (doorway .openDoor .none false) with timer := some 500 })).doors.door[(2 : Fin 4)]).state = .fault ∧
    (after (.contradictionExpiry 2) (doorBus 0 1 { (doorway .openDoor .none false) with timer := some 500 })).fault.record[(0 : Fin 32)].map
      (fun r => (r.code.index, r.context)) = some (2, some (3, 0)) := by decide

/-- 4.6: RELEASE_ACK of a pulled release, and the late second one. -/
theorem test_release_ack : ((after (.releaseAck .display 1 2) (doorBus 1 1 (doorway .released .pulled true))).doors.door[(2 : Fin 4)]).phase
    = .acked ∧ (after (.releaseAck .display 1 2) (doorBus 1 1 (doorway .locked .none false))).links.display.tx.map (fun f => f.payload)
    = some [0x31#8] := by decide

/-- 5.10, "On-delay and hysteresis": ticks 282 and 284. -/
def coolant : WarnDef :=
  { inUse := true, kind := .signalAbove, source := 31, threshold := 3200, hysteresis := 100, onDelay := 200
    severity := 5, telltale := some 3, chime := some .double, latched := false, record := false }
def withWarn (w : Fin 56) (d : WarnDef) (T : Trigger) (s : State) : State :=
  s.modWarn (fun m => { m with defs := m.defs.set w d, trigger := m.trigger.set w T })
def coolantAt (v : Nat) (T : Trigger) : State := withWarn 20 coolant T (withChan 31 { Channel.init with value := v } run0)

theorem test_warning_tick : (after .warningTick (coolantAt 3215 { state := .arming, count := 200 })).warn.active.map (fun e => (e.defn, e.cls))
    = [(20, .check)] ∧ (after .warningTick (coolantAt 3215 { state := .arming, count := 200 })).out.chime.playing = .oneshot .double 500 ∧
    (after .warningTick (coolantAt 3190 { state := .arming, count := 79 })).warn.trigger[(20 : Fin 56)] = { state := .off, count := 0 } := by
  decide +kernel
theorem test_trigger_activation : (after (.triggerActivation 20) (coolantAt 3215 { state := .arming, count := 200 })).warn.presented = some 20 ∧
    (after (.triggerActivation 20) (coolantAt 3215 { state := .arming, count := 199 })).warn.presented = none := by decide

/-- 5.10, "STALE_ACK after a preemption", and the acknowledgement that is taken. -/
def presents (w : Fin 56) (present : Bool) : State :=
  run0.modWarn (fun m => { m with
    presented := some w, nextNumber := 1
    active := [{ defn := w, cls := .stop, acked := false, present := present, chimed := false, number := 0 }] })
theorem test_warn_ack : (after (.warnAck .display 9 5) (presents 48 true)).links.display.tx.map (fun f => f.payload) = some [0x30#8, 48#8] ∧
    (after (.warnAck .display 9 48) (presents 48 false)).warn.active = [] := by decide

/-- 6.9, "A shorted telltale": the tenth sample, the wait's expiry and the trip of the third retry. -/
def withLamp (l : Fin 16) (L : Lamp) (s : State) : State := s.modLamp l (fun _ => L)
def telltale (p : Protection) (count retry : Nat) : Lamp :=
  { Lamp.init with fn := .telltale, displayDemand := true, drive := .on, protection := p, ocCount := count, retry := retry, openLevel := 150 }
theorem test_overcurrent_trip : (after (.overcurrentTrip 4) (withLamp 4 (telltale .normal 9 0) run0)).out.lamp[(4 : Fin 16)] =
    { (telltale .shutdown 10 0) with wait := some 0 } ∧
    (after (.overcurrentTrip 4) (withLamp 4 (telltale .retry 9 3) run0)).out.lamp[(4 : Fin 16)] = telltale .shutdown 10 3 := by decide
theorem test_retry_wait_expiry : (after (.retryWaitExpiry 4) (withLamp 4 { (telltale .shutdown 10 1) with wait := some 1000 } run0)).out.lamp[(4 : Fin 16)] =
    telltale .retry 0 2 := by decide
theorem test_retry_proof : (after (.retryProof 4) (withLamp 4 { (telltale .retry 0 2) with proof := 499 } run0)).out.lamp[(4 : Fin 16)] =
    telltale .normal 0 0 := by decide

/-- 6.9, "A failed door lamp at night", the 50th sample. -/
theorem test_open_state_change : (after (.openStateChange 7) (withLamp 7 { (telltale .normal 0 0) with openCount := 49 } run0)).out.lamp[(7 : Fin 16)] =
    { (telltale .normal 0 0) with openState := true } := by decide
theorem test_flash_half_toggle : (after (.flashHalfToggle (.lamp 13)) (withLamp 13 { Lamp.init with drive := .flash } run0)).energised 13 = false := by
  decide +kernel

/-- 6.9, "Three chimes meet": the one-shot's end at 4600 ms. -/
theorem test_chime_oneshot_end : (after .chimeOneshotEnd (run0.modChime (fun c => { c with playing := .oneshot .double 0 }))).out.chime.playing
    = .none := by decide


/-- The payloads that a link has still to send. -/
def payloads (l : LinkId) (s : State) : List (List Byte) := (s.outgoing l).map (fun f => f.payload)

/-- `run0` under a raised estimate or with a channel in a role. -/
def roled (i : Fin 40) (r : Role) (v : Nat) (s : State) : State := withChan i (roleChan r v) s

/-- 7.9, "Displacement": the lower odometer gives way among equal agings. -/
def full (active : Bool) : State :=
  { run0 with fault := { run0.fault with
      record := Vector.ofFn (fun p : Fin 32 => some
        { code := ⟨.warning, p.val, .raised⟩, active := active || !(p.val == 3 || p.val == 17 || p.val == 20), count := 1
          aging := if p.val = 20 then 7 else 12, firstOdo := 0, lastOdo := if p.val = 17 then 850000 else 900000
          speed := 0, supply := 0, mode := 2, context := none }) } }

theorem test_displacement : (takePresent ⟨.channel, 31, .shortBat⟩ ⟨0, 0, 0, 2⟩ none (full false)).fault.record[(17 : Fin 32)].map
      (fun r => (r.code, r.active, r.count)) = some (⟨.channel, 31, .shortBat⟩, true, 1) ∧
    (takePresent ⟨.lamp, 9, .lampFail⟩ ⟨0, 0, 0, 2⟩ none (full true)).fault.overflow = true := by decide

/-- R161: one record read back, and R162: a cleared memory is written whole. -/
theorem test_fault_read : (payloads .display (after (.faultRead .display 7 0 0) { run0 with
    fault := { run0.fault with overflow := true } })).map (fun p => p.take 4) = [[0#8, 0, 0, 0]] ∧
    (payloads .display (after (.faultRead .display 7 0 0) run0)).map (fun p => p.take 4) = [[0#8, 0, 0, 1]] := by decide
theorem test_fault_clear : (after (.faultClear .service 7) { (full true) with svc := serv0.svc }).store.inFlight.map
    (fun a => (a.area, a.total, a.bytes.take 3)) = some (.faults, 1600, [0, 1, 0]) := by decide

/-- 8.10, "A session ended by the park brake": its opening, and the refusal away from standstill. -/
theorem test_service_open : (after (.serviceOpen .service 1) (roled 20 .parkBrake 1 run0)).svc.isOpen = true ∧
    payloads .service (after (.serviceOpen .service 1) { run0 with speed := { run0.speed with estimate := 50 } }) = [[0x12#8, 6#8]] := by
  decide
theorem test_service_close : payloads .service (after (.serviceClose .service 1) serv0) = [[0#8, 0, 1]] ∧
    (after (.serviceClose .service 1) serv0).svc.isOpen = false := by decide +kernel
theorem test_silence : (after .silenceTimerExpiry serv0).svc.lastClose = .silence := by decide

/-- 8.10, "A full force list". -/
def eight : State := roled 20 .parkBrake 1 { serv0 with svc := { serv0.svc with
  forces := [(0, 1), (1, 1), (2, 1), (3, 1), (5, 1), (30, 9), (31, 9), (38, 0)] } }
theorem test_force : payloads .service (after (.force .service 1 6 1) eight) = [[0x20#8]] ∧
    ((after (.force .service 1 38 4000) eight).svc.forces.map (fun f => f.2)) = [1, 1, 1, 1, 1, 9, 9, 4000] ∧
    payloads .service (after (.force .service 1 20 1) eight) = [[0x12#8]] := by decide
theorem test_unforce : ((after (.unforce .service 1 2) eight).svc.forces.map (fun f => f.1.val)) = [0, 1, 3, 5, 30, 31, 38] := by
  decide
theorem test_output_test : (after (.outputTest .service 1 7 2) serv0).out.lamp[(7 : Fin 16)].drive = .flash ∧
    payloads .service (after (.outputTest .service 1 16 2) serv0) = [[0x20#8]] := by decide
theorem test_output_free : (after (.outputFree .service 1 17) { serv0 with svc := { serv0.svc with overrides := [(.di, .on)] } }).out.diOut
    = false := by decide

/-- 8.10, "A sweep cut by silence": the refusal names G2 and G1 starts. -/
def sweeping : State :=
  withGauge 2 { (tracking 0 0) with state := .homing } (withGauge 1 (tracking 0 0) (withGauge 0 (tracking 0 0) serv0))
theorem test_sweep : payloads .service (after (.sweep .service 1 5) sweeping) = [[0x12#8, 4#8]] ∧
    ((after (.sweep .service 1 3) sweeping).svc.sweep.toList.take 3) = [.inSweep, .inSweep, .notNamed] ∧
    ((after (.sweep .service 1 3) sweeping).gauges.gauge[(1 : Fin 6)]).target = 4100 := by decide
theorem test_restart : ((after (.restart .service 1) serv0).links.service.tx.map (fun f => f.restarts)) = some true ∧
    (after (.frameTransmitted .service) (after (.restart .service 1) serv0)).power.mode = .starting := by decide
theorem test_class_map : (after (.classMapSet .service 1 (Vector.replicate 8 3)) serv0).warn.map = Vector.replicate 8 .silent ∧
    payloads .service (after (.classMapSet .service 1 (Vector.replicate 8 4)) serv0) = [[0x20#8]] := by decide
theorem test_odo_set : (after (.odoSet .service 1 4812250) { serv0 with speed := { serv0.speed with working := 7 } }).speed.working = 4812250 ∧
    payloads .service (after (.odoSet .service 1 6) { serv0 with speed := { serv0.speed with working := 7 } }) = [[0x12#8]] := by
  decide

/-- 9.9, "Cut at the end of an area". -/
theorem test_store_write : (after (.storeWrite .display 1 4 1000 (List.replicate 40 9)) run0).store.inFlight.map
      (fun a => (a.area, a.offset, a.total)) = some (.user, 1000, 24) ∧
    payloads .service (after (.storeWrite .service 1 0 120 (List.replicate 16 9)) serv0) = [[0x14#8]] := by decide
theorem test_store_read : payloads .display (after (.storeRead .display 1 3 1600 4) run0) = [[0x20#8]] ∧
    (after (.storeRead .display 1 1 2000 96) run0).links.display.inFlight = some (0x30#8, 1#8) := by decide

/-- A USER read of two bytes and a USER write of one, on the Display Link. -/
def reading (attempts : Nat) : State :=
  { run0 with
    links := { run0.links with display := { Link.init with inFlight := some (0x30#8, 5#8) } }
    store := { run0.store with inFlight := some { newAccess (.linkRead .display .user 4 2) false .user 4 2 [] with attempts := attempts } } }
def writing (n : Nat) : State :=
  { run0 with
    links := { run0.links with display := { Link.init with inFlight := some (0x31#8, 5#8) } }
    store := { run0.store with inFlight := some (newAccess (.linkWrite .display .user 30 (List.replicate n 9) false) true .user 30 n
      (List.replicate n 9)) } }

theorem test_attempt_answered : payloads .display (after .storeAttemptAnswered (reading 0)) = [[0#8, 4, 0, 4, 2, 0xFF, 0xFF]] ∧
    (after .storeAttemptAnswered (writing 4)).eeprom = [⟨7030 - 984, 9⟩, ⟨6047, 9⟩] ∧
    (after .storeAttemptAnswered (writing 4)).store.inFlight.map (fun a => a.done) = some 2 := by decide
theorem test_attempt_timeout : (after .storeAttemptTimeout (reading 1)).store.inFlight.map (fun a => a.attempts) = some 2 ∧
    payloads .display (after .storeAttemptTimeout (reading 2)) = [[0x40#8, 0#8]] ∧
    (after .storeAttemptTimeout (reading 2)).store.lastFailure = some (.display, .user, 188) := by decide

/-- 9.9, "Mending a rejected image": one byte put, and a release of a bad image refused. -/
def held : State := { run0 with store := { run0.store with cfgState := .configHold, source := none } }
theorem test_config_put : (after (.configPut .display 1 2040 [7]) held).store.staging = [⟨2040, 7⟩] ∧
    payloads .display (after (.configPut .display 1 4095 [7, 8]) held) = [[0#8, 1]] := by decide
theorem test_config_release : payloads .display (after (.configRelease .display 1) held) = [[0x21#8, 0, 1, 0xFF]] ∧
    payloads .display (after (.configRelease .display 1) run0) = [[0x14#8]] := by decide

/-- 10.9, "Key-off at the terminus" and "A crank in RUN". -/
def cranking (level : Bool) (count : Nat) (c : SupplyClass) (m : PowerMode) : State :=
  { run0 with power := { run0.power with mode := m, supplyClass := c, crank := { level := level, count := count } } }
theorem test_ignition_crank : (after (.ignitionLevelChange .crank) (cranking false 24 .normal .run)).power.mode = .crank ∧
    (after (.ignitionLevelChange .crank) (cranking true 24 .sag .crank)).power.mode = .crank ∧
    (after (.ignitionLevelChange .crank) (cranking true 24 .normal .crank)).power.mode = .run := by decide
theorem test_line_settle : (after .lineSettleEnd { (mode0 .starting true false) with power :=
    { (mode0 .starting true false).power with lineSettle := some 98 } }).power.mode = .run := by decide +kernel
theorem test_off_timer : (after .offTimerExpiry { (mode0 .run false false) with power :=
      { (mode0 .run false false).power with offTimer := some 500, claim := some 9 } }).power.mode = .parking ∧
    (after .offTimerExpiry { (mode0 .run false false) with power :=
      { (mode0 .run false false).power with offTimer := some 500, claim := some 9 } }).power.parkTimer = some 0 := by decide

/-- PARKING with everything done but a claim, and the flush done. -/
def parked (timer : Nat) (claim : Option Nat) : State := { (mode0 .parking false false) with power :=
  { (mode0 .parking false false).power with parkTimer := some timer, claim := claim } }
theorem test_power_free : (after (.powerFree .display 1) (parked 5000 (some 22550))).power.mode = .watch := by decide
theorem test_power_hold : payloads .display (after (.powerHold .display 1) (parked 880 (some 1))) = [[0#8, 0x75, 0x30]] := by decide
theorem test_parking_limit : (after .parkingTimerLimit (parked 880 (some 1))).power.parkTimer = some 5000 ∧
    ((after .parkingTimerLimit ((withGauge 0 (tracking 5 5) (parked 880 (some 1))).modLink .display
      (fun r => { r with enabled := Vector.replicate 8 true }))).link .display).tx.isSome = true := by decide
theorem test_claim_expiry : (after .holdClaimExpiry (parked 5000 (some 1))).power.holdDemand = false := by decide

/-- 10.9, "A frame that wakes the part", and R208: five samples of a line. -/
theorem test_link_wake : (after (.statusGet .display 1) (watch0 true)).power.lastWake = .link ∧
    payloads .display (after (.statusGet .display 1) (watch0 true)) = [] ∧
    (after (.linkWake .service) (watch0 false)).power.mode = .watch := by decide
theorem test_watch_line : (after (.watchLineSample true false) (watch0 true)).power.watchAcc = 1 ∧
    (after (.watchLineSample true false) { (watch0 true) with power := { (watch0 true).power with watchAcc := 4 } }).power.lastWake
      = .key := by decide
theorem test_key_wake : (after (.keyWake .ign) { (watch0 true) with power := { (watch0 true).power with watchIgn := 4 } }).power.mode
    = .starting := by decide
theorem test_handle_wake : (after (.handleWake 1) ((watch0 true).modDoor 1 (fun D => { D with sense := ⟨true, 1, false⟩ }))).power.lastWake
    = .handle := by decide
theorem test_watch_handles : ((after (.watchHandleSample 2) (watch0 true)).doors.door[(1 : Fin 4)]).sense.count = 1 := by
  decide

/-- R209: what survives a loss of supply, and the accumulator that survives a RESTART. -/
theorem test_supply : (after .powerOn (after .lossOfSupply { run0 with eeprom := [⟨9, 1⟩] })).eeprom = [⟨9, 1⟩] ∧
    (after .lossOfSupply run0).powered = false := by decide
theorem test_restart_reset : (after .restartReset { run0 with speed := { run0.speed with accumulator := 55, tripA := 3 } }).speed.accumulator
    = 55 ∧ (after .restartReset run0).power.lastReset = .restart := by decide

/-- R212: the check byte makes the sum of all bytes after the sync 0; a wrong one is discarded, and a sync inside is kept. -/
theorem test_frame_rejected : (after (.frameRejected .display [0x7E, 3, 1, 0x20, 9, 0]) run0) = run0 ∧
    payloads .display (after (.frameRejected .display [0x7E, 3, 1, 0x2E, 9, 0x100 - 0x3B]) run0) = [[0#8, 0x75, 0x30]] := by
  decide
theorem test_frame_accepted : ((after (.frameAccepted .display 1 0x2E 9 []) (after (.frameRejected .display [0x7E, 9, 1]) run0)).link .display).rx
      = [] ∧ ((after (.frameRejected .display [0x7E, 9, 1]) run0).link .display).rx = [0x7E#8, 9, 1] ∧
    payloads .display (after (.frameAccepted .display 1 0x50 9 []) run0) = [[0x22#8]] := by decide
theorem test_report_set : (after (.reportSet .display 1 0x80 100 0 4) run0).links.display.window = some ⟨100, 0, 4⟩ ∧
    payloads .display (after (.reportSet .display 1 0x80 99 0 4) run0) = [[0x20#8]] := by decide
theorem test_signals_period : ((after (.signalsPeriodExpiry .display) (after (.frameTransmitted .display)
    (after (.reportSet .display 1 0x80 100 38 2) run0))).links.display.tx.map (fun f => f.payload.take 2)) = some [38#8, 2] := by
  decide

/-- A held request answers BUSY behind it (R213). -/
theorem test_busy : payloads .display (after (.statusGet .display 6) (reading 0)) = [[0x11#8]] := by decide
theorem test_status : (payloads .display (after (.statusGet .display 6) run0)).map (fun p => p.take 5) = [[0#8, 1, 0, 0, 2]] := by decide
theorem test_signals_get : payloads .display (after (.signalsGet .display 6 39 2 0) run0) = [[0#8, 39, 1, 0, 0, 5, 0]] := by decide
theorem test_doors_get : (payloads .display (after (.doorsGet .display 6) run0)).map (fun p => (p.length, p.drop 49)) =
    [(57, [0xFF#8, 0, 0, 0, 0, 0, 0, 0])] := by decide
theorem test_odo_get : (payloads .display (after (.odoGet .display 6) { run0 with speed := { run0.speed with working := 1234567 } })).map
    (fun p => p.take 5) = [[0#8, 0x00, 0x12, 0xD6, 0x87]] := by decide
theorem test_warn_list : (payloads .display (after (.warnList .display 6 2 0) run0)) = [[0x20#8]] := by decide
theorem test_feed : ((after (.feed .display 6 [(5, 0x8000)]) run0).gauges.gauge[(5 : Fin 6)]).fed = some 0x8000 ∧
    payloads .display (after (.feed .display 6 [(5, 1), (5, 2)]) run0) = [[0x20#8]] := by decide
theorem test_feed_warn : (after (.feedWarn .display 6 [(20, 1)]) (withWarn 20 { coolant with kind := .fed } ⟨.off, 0⟩ run0)).warn.fedFlag[(20 : Fin 48)]
    = true ∧ payloads .display (after (.feedWarn .display 6 [(20, 1)]) (coolantAt 0 ⟨.off, 0⟩)) = [[0x20#8]] := by decide
theorem test_lamp_set : (after (.lampSet .display 6 [(4, 1)]) (withLamp 4 { Lamp.init with fn := .telltale } run0)).out.lamp[(4 : Fin 16)].drive
    = .on := by decide
/-- R134: the night duty of a telltale, and the handle line that keeps 1000 ‰. -/
theorem test_duty : ∀ v d, (v = 0 ∧ d = 1000) ∨ (v = 1 ∧ d = 300) →
    (let s := outputEval (roled 3 .headlamp v (withLamp 4 (telltale .normal 0 0)
        (withLamp 13 { Lamp.init with drive := .on } { run0 with out := { run0.out with nightDuty := 300 } })))
     s.out.night = decide (v = 1) ∧ s.duty 4 = d ∧ s.lampDrive 4 = d ∧ s.duty 13 = 1000 ∧ s.lampDrive 5 = 0) := by
  rintro v d (⟨rfl, rfl⟩ | ⟨rfl, rfl⟩) <;> decide
theorem test_lamp_reset : ((after (.lampReset .display 6 0x0010) (withLamp 4 (telltale .shutdown 10 3) run0)).out.lamp[(4 : Fin 16)]).protection
    = .normal := by decide
theorem test_trip_clear : (after (.tripClear .display 6 1) { run0 with speed := { run0.speed with tripA := 5, tripB := 6 } }).speed.tripB = 0 ∧
    (after (.tripClear .display 6 1) { run0 with speed := { run0.speed with tripA := 5, tripB := 6 } }).speed.tripA = 5 := by decide

/-- The speedometer's record as a GAUGE_SET carries it. -/
def speedoRaw : GaugeRaw :=
  { source := 38, enabled := 1, offset := 0, gain := 512, loLimit := 0, hiLimit := 6000, loSet := 0, hiSet := 6100, sweep := 4100
    damping := 4, slew := 40, divider := 1, count := 4
    breaks := Vector.ofFn (fun i => if i.val = 1 then ⟨2000, 1200⟩ else if i.val = 2 then ⟨6000, 4000⟩ else if i.val = 3 then ⟨6100, 4060⟩
      else ⟨0, 0⟩) }
theorem test_gauge_set : (after (.gaugeSet .display 6 0 speedoRaw) run0).gauges.gauge[(0 : Fin 6)].staged = some speedo ∧
    payloads .display (after (.gaugeSet .display 6 6 speedoRaw) run0) = [[0x20#8]] := by decide

/-! ### Witnesses: for each statement with hypotheses, a state and operands that meet them, clause by clause

A statement's clauses are shown in their order; `wit_<Name>` belongs to `Obligations.<Name>`. -/

theorem settled_run {s : State} (h : s.power.mode = .run ∧ s.crankCondition = false ∧ s.power.ign.level = true ∧
    s.power.offTimer = none) : ModeSettled s := by
  simp [ModeSettled, h]

theorem settled_parking {s : State} (h : s.power.mode = .parking ∧ s.power.ign.level = false ∧ s.power.acc.level = false ∧
    s.power.claim.isSome = true) : ModeSettled s := by
  simp [ModeSettled, h]

theorem admits_of {l : LinkId} {s : State} (h : s.awake = true ∧ s.store.cfgState ≠ .preloading ∧ (s.link l).inFlight = none ∧
    (s.link l).replies.length < 9) : Admits l s := h

theorem idle_of {s : State} (h : s.store.inFlight = none ∧ s.store.waiting = PendingAccesses.init ∧ s.fault.items = [] ∧
    s.speed.parking.over = true ∧ s.fault.part.over = true) : StoreIdle s := h

theorem wit_StepRunsFrontCommand : run0.pending = [] := rfl
theorem wit_CommandsLeaveQueue : exec (.keyWake .acc) run0 = .next run0 := by rfl
theorem wit_StepsCompleteInArea : AccessOk (reading 0) ∧ AccessOk (writing 4) :=
  ⟨⟨by decide, by decide, by decide, by decide, by decide, by decide⟩, ⟨by decide, by decide, by decide, by decide, by decide, by decide⟩⟩
theorem wit_MemoriesStayCanonical : MemoryOk { run0 with eeprom := [⟨8191, 0⟩], store := { run0.store with staging := [⟨4095, 1⟩] } } ∧
    step run0 = .next run0 := ⟨⟨by decide, by decide⟩, rfl⟩
theorem wit_ServiceListsStayBounded : ServiceOk eight ∧ step eight = .next eight :=
  ⟨⟨by decide, by decide, by decide, by decide, by decide⟩, rfl⟩
theorem wit_ActiveListStaysOrdered : ActiveListOk (presents 48 true).warn ∧ step (presents 48 true) = .next (presents 48 true) :=
  ⟨⟨by decide, by decide, by decide, by decide, by decide, by decide⟩, rfl⟩
theorem wit_UnpoweredPartIsInert : { run0 with powered := false }.powered = false ∧ Instr.warningTick.kind ≠ .supply := by decide
theorem wit_WatchAndRunKeepApart : ((watch0 true).powered = true ∧ Instr.warningTick.kind = .running ∧ (watch0 true).power.mode = .watch) ∧
    (run0.powered = true ∧ (Instr.keyWake .ign).kind = .watching ∧ run0.power.mode ≠ .watch) := by decide
theorem wit_FrameBytesAreReceived : (List.replicate 120 0x7E#8).length ≤ maxPayload := by decide
theorem wit_RequestFramesAreRequests : (Instr.feed .display 9 [(5, 0x8000)]).kind = .request .display ∧
    (Instr.feed .display 9 [(5, 0x8000)]).wellFormed = true ∧
    (Instr.feed .display 9 [(5, 0x8000)]).requestFrame = some (0x22, 9, [1, 5, 0x80, 0x00]) := by decide
theorem wit_SupplyCommandsResetAndTurnOff : (∀ a, run0.store.inFlight = some a → a.isWrite = false) ∧
    (∀ a, (reading 0).store.inFlight = some a → a.isWrite = false) := by
  exact ⟨fun a h => (by cases h), fun a h => (by cases h; rfl)⟩
theorem wit_CutWritesLeaveOldOrNew : MemoryOk (writing 4) ∧ MemoryOk (writing 1) := ⟨⟨by decide, by decide⟩, ⟨by decide, by decide⟩⟩
theorem wit_RestartReinitialises : (run0.awake = true ∧ run0.store.source ≠ some .unsaved) ∧
    { run0 with store := { run0.store with source := some .unsaved } }.awake = true := by decide

/-- WATCH with both line counters at `n`. -/
def counting (on : Bool) (acc ign : Nat) : State :=
  { watch0 on with power := { (watch0 on).power with watchAcc := acc, watchIgn := ign } }

/-- A state whose configuration is a staging image that is not in the store (R197). -/
def unsaved (s : State) : State := { s with store := { s.store with source := some .unsaved } }

theorem wit_WakesAnswerTheirEnables : ((unsaved (counting true 4 4)).power.mode = .watch ∧
      (unsaved (counting true 4 4)).store.source = some .unsaved) ∧
    ((counting true 4 4).powered = true ∧ (counting true 4 4).power.mode = .watch ∧ (counting true 4 4).store.source ≠ some .unsaved ∧
      (counting true 4 4).power.watchAcc = 4 ∧ (counting true 4 4).power.watchIgn = 4) ∧
    (((counting false 4 4).modDoor 3 (fun D => { D with sense := ⟨true, 1, false⟩ })).power.mode = .watch ∧
      (((counting false 4 4).modDoor 3 (fun D => { D with sense := ⟨true, 1, false⟩ })).doors.door[(3 : Fin 4)]).sense = ⟨true, 1, false⟩) := by
  decide
theorem wit_FramesInWatchAreWakes : (watch0 true).powered = true ∧ (watch0 true).power.mode = .watch ∧
    ((watch0 true).link .service).rx = [] ∧ (Instr.statusGet .service 3).kind = .request .service ∧ (List.replicate 120 0#8).length ≤ maxPayload := by decide
theorem wit_WatchSamplesCount : (counting true 3 5).power.mode = .watch ∧ (counting true 3 5).power.watchAcc ≤ 5 ∧
    ¬((counting true 3 5).power.watchIgn = 4) ∧ (counting true 4 0).power.watchAcc = 4 ∧ (counting true 0 4).power.watchIgn = 4 ∧
    (∀ d : Fin 4, (watch0 true).doors.door[d].sense = ⟨false, 0, false⟩) := by decide
theorem wit_IgnitionLevelTurns : (cranking false 24 .normal .run).awake = true ∧
    ((cranking false 24 .normal .run).power.line .crank).count ≥ 24 := by decide

/-- A mode with its three lines' levels and counters. -/
def lines (m : PowerMode) (ign acc : Bool) (n : Nat) : State :=
  { run0 with power := { run0.power with
      mode := m, ign := ⟨ign, n⟩, acc := ⟨acc, n⟩, crank := ⟨false, n⟩, parkTimer := if m = .parking then some 0 else none } }

/-- AN7 read without averaging, so that a sample sets the supply. -/
def supplied (v : Nat) (s : State) : State :=
  withChan 37 { Channel.init with cfg := some { plainChan with count := 0 }, value := v, filterOut := v, seeded := true } s

/-- Quiet inputs with a reading at AN7. -/
def quietAt (v : Nat) : SampleInputs := { quiet with analogue := Vector.ofFn (fun i => if i.val = 7 then v else 0) }

theorem wit_IgnitionLevelsMoveTheMode : (∀ m ign acc, (lines m ign acc 24).power.crank.level = false ∧
      (lines m ign acc 24).power.supplyClass ≠ .sag ∧ (lines m ign acc 24).power.ign = ⟨ign, 24⟩ ∧
      (lines m ign acc 24).power.acc = ⟨acc, 24⟩ ∧ (lines m ign acc 24).power.crank.count ≥ 24 ∧
      (lines m ign acc 24).power.mode = m ∧ (lines m ign acc 24).power.offTimer = none ∧
      ((lines m ign acc 24).awake = true ↔ m ≠ .watch)) ∧
    (∀ l : Fin 16, run0.out.lamp[l].protection = .normal) ∧
    ((cranking true 0 .normal .parking).awake = true ∧ (cranking true 0 .normal .parking).power.crank.level = true ∧
      { (cranking true 0 .normal .parking).power with ign := ⟨false, 24⟩ }.ign = ⟨false, 24⟩) ∧
    ((cranking true 24 .normal .crank).power.crank = ⟨true, 24⟩ ∧ (cranking true 24 .normal .crank).power.ign.level = true ∧
      (cranking true 24 .normal .crank).power.mode = .crank) := by
  refine ⟨fun m ign acc => ?_, by decide⟩
  cases m <;> cases ign <;> cases acc <;> decide
theorem wit_IgnitionLevelsMoveTheMode_supply :
    ((supplied 3050 run0).power.mode = .run ∧ (supplied 3050 run0).power.supplyClass ≠ .sag ∧
      (supplied 3050 run0).power.ign.level = true ∧ (quietAt 1999).ign = true ∧
      (after (.sampleEvent (quietAt 1999)) (supplied 3050 run0)).power.supplyClass = .sag) ∧
    ((supplied 1999 (cranking false 0 .sag .crank)).power.mode = .crank ∧
      (supplied 1999 (cranking false 0 .sag .crank)).power.crank.level = false ∧ (quietAt 2250).crank = false ∧
      (supplied 1999 (cranking false 0 .sag .crank)).power.supplyClass = .sag ∧
      (after (.sampleEvent (quietAt 2250)) (supplied 1999 (cranking false 0 .sag .crank))).power.supplyClass = .normal) := by
  decide +kernel

/-- ACC one sample before IGN and CRANK turn on. -/
def keyThrown : State := supplied 3050 (lines .acc false true 24)
theorem wit_IgnitionLevelsMoveTheMode_together :
    (keyThrown.awake = true ∧ keyThrown.power.mode = .acc ∧ keyThrown.power.ign = ⟨false, 24⟩ ∧
      keyThrown.power.crank.level = false ∧ keyThrown.power.supplyClass ≠ .sag ∧ quiet.ign = true) ∧
    (after (.sampleEvent { quiet with acc := true, crank := true }) keyThrown).power.crank.level = true ∧
    (after (.sampleEvent { quiet with acc := true }) keyThrown).power.crank.level = false ∧
    (after (.sampleEvent { quietAt 1999 with acc := true }) keyThrown).power.supplyClass = .sag := by decide +kernel

/-- R203: each change at one sample event has its evaluation, so the second takes RUN to CRANK. -/
theorem test_sample_event_evaluates_each_change :
    (after (.sampleEvent { quiet with acc := true, crank := true }) keyThrown).power.mode = .crank ∧
    (after (.sampleEvent { quietAt 1999 with acc := true }) keyThrown).power.mode = .crank ∧
    (after (.sampleEvent { quiet with acc := true }) keyThrown).power.mode = .run := by decide +kernel

/-- STARTING with the settle running and the preload's state given. -/
def starting (c : CfgState) (ign acc : Bool) : State :=
  { mode0 .starting ign acc with
    store := { run0.store with cfgState := c }
    power := { (mode0 .starting ign acc).power with lineSettle := some 98, claim := some 1 } }

theorem wit_LineSettleEndStarts :
    ((starting .preloading true false).awake = true ∧ (starting .preloading true false).power.mode = .starting ∧
      (starting .preloading true false).power.lineSettle.isSome = true ∧ (starting .preloading true false).store.cfgState = .preloading) ∧
    ((starting .ready false true).store.cfgState ≠ .preloading ∧ (starting .ready false true).power.acc.level = true) ∧
    ((starting .ready true false).power.ign.level = true ∧ (starting .ready true false).crankCondition = false) ∧
    ((starting .configHold false false).power.ign.level = false ∧ (starting .configHold false false).power.claim.isSome = true) := by
  decide

/-- The off timer at its end, with a claim. -/
def offTimed (m : PowerMode) : State :=
  { serv0 with power := { (mode0 m false false).power with offTimer := some 500, claim := some 1 } }

theorem wit_OffTimerExpiryParks : (offTimed .run).awake = true ∧ ((offTimed .acc).power.mode = .acc ∧ (offTimed .run).power.mode = .run) ∧
    (offTimed .run).power.offTimer.isSome = true ∧ (offTimed .run).power.ign.level = false ∧ (offTimed .run).power.acc.level = false ∧
    (offTimed .run).power.claim.isSome = true ∧ (offTimed .run).svc.isOpen = true ∧
    (∀ g : Fin 6, (offTimed .run).svc.sweep[g] = .notNamed) ∧ (rolling true).speed.loaded = true := by decide

theorem wit_ParkingTimerLimitEndsTheWait : ((parked 4980 none).awake = true ∧ (parked 4980 none).power.mode = .parking ∧
      (parked 4980 none).power.ign.level = false ∧ (parked 4980 none).power.acc.level = false ∧
      (parked 4980 none).power.parkTimer.isSome = true ∧ (parked 4980 none).flushDone = true ∧ (parked 4980 none).power.claim = none ∧
      (parked 4980 none).store.inFlight = none) ∧ (parked 4980 (some 1)).power.claim.isSome = true := by decide

theorem wit_HoldClaimsStartAndEnd : (run0.awake = true ∧ run0.power.mode ≠ .parking ∧ ModeSettled run0) ∧
    ((parked 5000 (some 1)).power.claim.isSome = true ∧ (parked 5000 (some 1)).power.parkTimer = some 5000 ∧
      (parked 5000 (some 1)).flushDone = true ∧ (parked 5000 (some 1)).store.inFlight = none) ∧
    (Admits .display (parked 5000 (some 1)) ∧ (parked 5000 (some 1)).power.mode = .parking) ∧
    (Admits .display (parked 880 none) ∧ ModeSettled { parked 880 none with power := { (parked 880 none).power with claim := some 30000 } }) ∧
    (Admits .display run0 ∧ ModeSettled { run0 with power := { run0.power with claim := none } }) ∧ Admits .service run0 :=
  ⟨⟨by decide, by decide, run0_settled⟩, by decide, ⟨admits_of (by decide), by decide⟩, ⟨admits_of (by decide), settled_parking (by decide)⟩,
    ⟨run0_admits.1, settled_run (by decide)⟩, run0_admits.2.1⟩

theorem wit_FiltersMoveTowardTheirSamples : (1 ≤ 4 ∧ 4 ≤ 4 ∧ 4 ≤ 4 ∧ 3 < 4) ∧ (1000 < 1003 ∧ 990 < 1003) := by decide

def faulty (c : LineCond) : Channel := { Channel.init with cfg := some doorChan, cond := c }
theorem wit_FiftySamplesDeclareAndClear : (SampleClass.shortGnd ≠ .normal ∧ (faulty .normal).qual = 0 ∧ (faulty .normal).cand = none ∧
    (faulty .normal).cond = .normal ∧ 1 ≤ 49 ∧ 49 < 50) ∧ (faulty .shortGnd).cond = SampleClass.shortGnd.cond := by decide

theorem wit_SampleEventTakesEverySample :
    (run0.awake = true ∧ run0.store.cfgState ≠ .preloading ∧ run0.forcedValue 37 = none) ∧
    ((starting .preloading true false).awake = true ∧ (starting .preloading true false).store.cfgState = .preloading) ∧
    ((withLamp 4 (telltale .normal 9 0) run0).energised 4 = true ∧ (withLamp 4 (telltale .normal 9 0) run0).energised 5 = false ∧
      (telltale .normal 9 0).tripAt = 10 ∧ (telltale .normal 9 0).ocLevel ≤ 4095 ∧ (telltale .normal 9 0).openLevel = 150) ∧
    ((withLamp 4 { (telltale .retry 0 2) with proof := 499 } run0).energised 4 = true) ∧
    (after (.sampleEvent quiet) (supplied 3050 (withLamp 4 { (telltale .retry 0 2) with proof := 499, openCount := 49 } run0))).power.mode = .run ∧
    (after (.sampleEvent quiet) (starting .preloading true false)).power.mode = .starting := by
  decide +kernel

theorem wit_LastCountsDeclareAndClear : (brokenWire.awake = true ∧ ModeSettled brokenWire ∧ brokenWire.store.cfgState ≠ .preloading ∧
      brokenWire.sig.frozen = false ∧ brokenWire.sig.chan[(8 : Fin 40)].cfg = some doorChan ∧ doorChan.diag = true ∧
      brokenWire.sig.chan[(8 : Fin 40)].cond.declared = false ∧ brokenWire.sig.chan[(8 : Fin 40)].qual = 49 ∧
      brokenWire.sig.chan[(8 : Fin 40)].cand = some .openLine) ∧
    (∀ k : SampleClass, k = .normal ∨ k = .shortBat →
      ModeSettled (withChan 37 { faulty .shortGnd with qual := 49, cand := some k } run0) ∧ k.cond ≠ LineCond.shortGnd) ∧
    (faulty .shortGnd).cond.declared = true :=
  ⟨⟨by decide, settled_run (by decide), by decide⟩, fun k _ => ⟨settled_run ⟨rfl, rfl, rfl, rfl⟩, by cases k <;> simp_all [SampleClass.cond]⟩, by decide⟩

theorem wit_SettleExpiriesResume : ((holding (.settle 199) .suspended).awake = true ∧
      (holding (.settle 199) .suspended).sig.hold = .settle 199 ∧ ModeSettled (holding (.settle 199) .suspended)) ∧
    { run0 with gauges := { run0.gauges with hold := .settle 0 } }.gauges.hold = .settle 0 :=
  ⟨⟨rfl, rfl, settled_run (by decide)⟩, rfl⟩

theorem wit_EdgesFeedTheRings : run0.awake = true ∧
    (∀ a b : Bool, a = false → b = false →
      ((filterStep (run0.edgeThreshold .pu0) a run0.speed.pu0.count run0.speed.pu0.out).2 = true → run0.speed.pu0.out = true) ∧
      ((filterStep (run0.edgeThreshold .pu1) b run0.speed.pu1.count run0.speed.pu1.out).2 = true → run0.speed.pu1.out = true)) ∧
    (∀ e : EdgeCapture, e = { EdgeCapture.init with count := 1, ring := stopRing } → e.out = false ∧
      run0.edgeThreshold .pu0 ≤ e.count + 1 ∧ run0.edgeThreshold .pu1 ≤ e.count + 1 ∧ e.ring.length = 9) ∧
    (run0.speed.pulseConst = some 8000 ∧ 798 + 1 < 8000 / 10) :=
  ⟨by decide, by decide, fun e h => (by cases h; decide), by decide⟩

/-- One increment from a scheduled write, with the odometer at `w`. -/
def tenth (w stored : Nat) (loaded : Bool) : State :=
  { run0 with speed := { run0.speed with accumulator := 799, working := w, stored := stored, loaded := loaded } }
theorem wit_OdometerCountsTenths : ((tenth 9 0 true).awake = true ∧ ModeSettled (tenth 9 0 true) ∧
      (tenth 9 0 true).speed.pulseConst = some 8000 ∧ 8000 / 10 ≤ (tenth 9 0 true).speed.accumulator + 1) ∧
    ((tenth 8 0 true).speed.working + 1 < (tenth 8 0 true).speed.stored + 10) ∧
    ((tenth 9 0 true).speed.scheduled = .none ∧ (tenth 9 0 true).speed.stored + 10 ≤ (tenth 9 0 true).speed.working + 1 ∧
      StoreIdle (tenth 9 0 true)) :=
  ⟨⟨by decide, settled_run (by decide), by decide, by decide⟩, by decide, by decide, by decide, idle_of (by decide)⟩

/-- Two edges `gap` µs apart, the second 1 ms before the frame at 1,500,000. -/
def twoEdges (gap : Nat) (moving : Bool) : State :=
  { run0 with speed := { run0.speed with
      moving := moving, pu0 := { EdgeCapture.init with ring := [BitVec.ofNat 32 (1499000 - gap), 1499000] } } }
theorem wit_MovingFollowsItsHysteresis_resets :
    ((counting true 4 4).powered = true ∧ (counting true 4 4).power.mode = .watch ∧ (counting true 4 4).power.watchAcc = 4 ∧
      (counting true 4 4).power.watchIgn = 4 ∧ (counting true 4 4).power.enables.any (fun e => e.key) = true ∧
      exec (.keyWake .ign) (counting true 4 4) = .next (after (.keyWake .ign) (counting true 4 4))) ∧
    (∀ s, s = (counting true 4 4).modDoor 3 (fun D => { D with sense := ⟨true, 1, false⟩ }) → s.powered = true ∧ s.power.mode = .watch ∧
      s.power.enables.any (fun e => e.handle) = true ∧ 1 ≤ (s.doors.door[(3 : Fin 4)]).sense.count ∧
      (s.doors.door[(3 : Fin 4)]).sense.out = false ∧ exec (.handleWake 3) s = .next (after (.handleWake 3) s)) ∧
    (∀ s, s = after (.restart .service 1) serv0 → s.awake = true ∧ (s.link .service).tx.map (fun f => f.restarts) = some true ∧
      exec (.frameTransmitted .service) s = .next (after (.frameTransmitted .service) s)) :=
  ⟨⟨by decide, by decide, by decide, by decide, by decide, rfl⟩,
    fun s h => ⟨by cases h; decide, by cases h; decide, by cases h; decide, by cases h; decide, by cases h; decide, rfl⟩,
    fun s h => ⟨by cases h; decide, by cases h; decide, rfl⟩⟩
theorem wit_MovingFollowsItsHysteresis :
    (after (.gaugeFrame 1500000) (twoEdges 90000 false)).speed.estimate = 500 ∧
    (after (.gaugeFrame 1500000) (twoEdges 89820 false)).speed.estimate = 501 ∧
    (after (.gaugeFrame 1500000) (twoEdges 150000 true)).speed.estimate = 300 ∧
    (after (.gaugeFrame 1500000) (twoEdges 149500 true)).speed.estimate = 301 ∧ (twoEdges 90000 false).awake = true ∧
    (exec .powerOn run0 = .next (after .powerOn run0)) ∧ exec .restartReset run0 = .next (after .restartReset run0) ∧
    ((watch0 true).power.mode = .watch ∧ (watch0 true).power.enables.any (fun e => e.link) = true ∧
      exec (.linkWake .display) (watch0 true) = .next (after (.linkWake .display) (watch0 true))) :=
  ⟨by decide, by decide, by decide, by decide, by decide, rfl, rfl, by decide, by decide, rfl⟩
theorem wit_GaugeFrameTakesTheEstimates : (twoEdges 90000 false).awake = true ∧ ModeSettled (twoEdges 90000 false) ∧
    run0.speed.pu0.ring.length < 2 ∧ { run0 with speed := { run0.speed with pulseConst := none } }.speed.pulseConst = none ∧
    ModeSettled { run0 with speed := { run0.speed with pulseConst := none } } ∧
    (∀ now : Word, now = 1080000 ∨ now = 1240000 →
      (after (.gaugeFrame now) (rolling true)).speed.pu0.ring = stopRing ∧ stopRing.length = 8 + 1 ∧
      stopRing.head? = some 1000000 ∧ stopRing.getLast? = some 1072000 ∧ (rolling true).speed.pulseConst = some 8000 ∧
      (72000 / 8 < (now - 1072000).toNat ↔ now = 1240000)) ∧
    (after (.gaugeFrame 21000) { run0 with speed := { run0.speed with pu1 := { EdgeCapture.init with ring := [2500, 5000] } } }).speed.pu1.ring
      = [2500, 5000] :=
  ⟨by decide, settled_run (by decide), by decide, rfl, settled_run (by decide), by rintro now (rfl | rfl) <;> decide, by decide⟩

theorem wit_PipelineStaysInRange : gaugeFailingItem speedoRaw = none ∧
    gaugeFailingItem { speedoRaw with gain := 4095, offset := 0xFFFF, damping := 16, slew := 200, divider := 8 } = none := by decide

theorem wit_GaugeFrameMovesThePointers : (run0.awake = true ∧ ModeSettled run0 ∧ run0.svc.isOpen = false) ∧
    ((after (.gaugeFrame 0) serv0).speed.estimate < 100 ∧ ModeSettled serv0 ∧ serv0.svc.isOpen = true) ∧
    ((starting .preloading true false).store.cfgState = .preloading ∧ ModeSettled (starting .preloading true false)) ∧
    (∀ G, (withGauge 3 G run0).gauges.gauge[(3 : Fin 6)] = G ∧ ModeSettled (withGauge 3 G run0) ∧ (withGauge 3 G run0).awake = true) ∧
    (∀ st : PointerState, ∀ ph : SweepPhase, ∀ n : Nat, n = 100 ∨ n = 101 →
      ∀ G, G = { tracking 100 200 with state := st, homing := n, phase := ph, feedAge := 979 + (n - 100) } →
      G.staged = none ∧ G.known = true ∧ G.active = some speedo ∧ speedo.source = .channel 38 ∧ (100 < G.homing ↔ n = 101) ∧
      (980 ≤ G.feedAge ↔ n = 101)) ∧
    (∀ c : GaugeCfg, c = { speedo with source := .fed } ∨ c = { speedo with enabled := false } ∨ c = { speedo with sweep := 150 } →
      ∀ G, G = { tracking 100 200 with state := .held, phase := .up, staged := some c } →
      G.staged = some c ∧ G.state = .held ∧ G.phase ≠ .none ∧ (c.enabled = true ↔ c ≠ { speedo with enabled := false }) ∧
      ((G.position ≤ c.sweep ∧ G.target ≤ c.sweep) ↔ c ≠ { speedo with sweep := 150 })) ∧
    ({ serv0 with svc := { serv0.svc with sweep := Vector.replicate 6 .inSweep } }.svc.sweep[(3 : Fin 6)] = .inSweep) ∧
    ({ Gauge.init with state := .disabled, staged := some speedo }.known = false) := by
  refine ⟨⟨by decide, run0_settled, by decide⟩, ⟨by decide, serv0_settled, by decide⟩, ⟨by decide, Or.inl rfl⟩,
    fun G => ⟨rfl, settled_run ⟨rfl, rfl, rfl, rfl⟩, rfl⟩, ?_, ?_, by decide, by decide⟩
  · rintro st ph n (rfl | rfl) G rfl <;> exact ⟨rfl, rfl, rfl, rfl, by simp, by simp⟩
  · rintro c (rfl | rfl | rfl) G rfl <;> decide
theorem wit_GaugeEventsEndHomingAndFeed : (run0.awake = true ∧ ModeSettled run0 ∧ run0.store.cfgState ≠ .preloading) ∧
    ((withGauge 5 { Gauge.init with state := .homing, homing := 100 } run0).gauges.gauge[(5 : Fin 6)].state = .homing ∧
      (withGauge 5 { Gauge.init with state := .homing, homing := 100 } run0).gauges.gauge[(5 : Fin 6)].homing ≤ 100) ∧
    (({ speedo with source := .fed }.source = .fed) ∧ (tracking 5 5).state ≠ .disabled ∧ { tracking 5 5 with feedAge := 980 }.feedAge = 980) ∧
    (∀ G, ModeSettled (withGauge 5 G run0)) :=
  ⟨⟨by decide, run0_settled, by decide⟩, by decide, by decide, fun _ => settled_run ⟨rfl, rfl, rfl, rfl⟩⟩

/-- Four configured doorways in one condition, their CLOSED and LOCKED channels as given for DW2. -/
def doors4 (closed locked : Nat) (D : Doorway) : State :=
  { doorBus closed locked D with doors := { run0.doors with door := Vector.replicate 4 D } }

/-- A handle line one sample from its turn, in another configuration state or on a bus without that doorway. -/
def handled (c : CfgState) (conf : Option Bool) : State :=
  let D := { (doorway .unconfigured .none false) with configured := conf, sense := ⟨true, 9, false⟩ }
  let s := if c = .preloading then starting c true false else { run0 with store := { run0.store with cfgState := c } }
  { s with doors := { run0.doors with door := Vector.replicate 4 D } }
theorem wit_HandleEventsMoveThePhase_kept :
    (∀ s : State, ∃ kept : Fin 4 → ReleasePhase → ReleasePhase, ∀ k p,
      kept k p = if s.store.cfgState = .ready ∧ s.doors.door[k].configured ≠ some true then .none else p) ∧
    (∀ c conf, (c, conf) ∈ [(CfgState.preloading, none), (.configHold, some false), (.ready, some false)] →
      ModeSettled (handled c conf) ∧ (handled c conf).awake = true ∧ (handled c conf).store.cfgState = c ∧
      (handled c conf).energised (handleLamp 1) = false ∧ (handled c conf).doors.door[(1 : Fin 4)].resense = 10 ∧
      (handled c conf).doors.door[(1 : Fin 4)].sense = ⟨true, 9, false⟩ ∧ (handled c conf).doors.door[(1 : Fin 4)].configured = conf) := by
  refine ⟨fun s => ⟨_, fun _ _ => rfl⟩, fun c conf h => ?_⟩
  simp only [List.mem_cons, List.not_mem_nil, or_false, Prod.mk.injEq] at h
  rcases h with ⟨rfl, rfl⟩ | ⟨rfl, rfl⟩ | ⟨rfl, rfl⟩
  · exact ⟨by simp [ModeSettled, handled, starting, mode0], by decide⟩
  · exact ⟨settled_run ⟨rfl, rfl, rfl, rfl⟩, by decide⟩
  · exact ⟨settled_run ⟨rfl, rfl, rfl, rfl⟩, by decide⟩

theorem wit_HandleEventsMoveThePhase :
    ModeSettled (doors4 1 1 { (doorway .locked .none false) with sense := ⟨true, 9, false⟩ }) ∧
    (∀ D, D = { (doorway .locked .none false) with sense := ⟨true, 9, false⟩ } ∨
        D = { (doorway .released .acked true) with sense := ⟨true, 1, true⟩ } ∨
        D = { (doorway .released .pulled false) with resense := 9, sense := ⟨true, 9, false⟩ } ∨
        D = { (doorway .released .pulled false) with resense := 9, sense := ⟨false, 0, false⟩ } →
      (doors4 1 1 D).awake = true ∧ (doors4 1 1 D).store.cfgState = .ready ∧
      (∀ k : Fin 4, (doors4 1 1 D).doors.door[k].configured = some true) ∧
      (∀ k : Fin 4, (doors4 1 1 D).doors.door[k].state ≠ .disabled) ∧ (doors4 1 1 D).energised (handleLamp 2) = false ∧
      (D.resense = 10 → D.sense.count = (if D.sense.out then 1 else 9)) ∧
      (D.resense ≠ 10 → D.resense = 9 ∧ D.sense.count = (if D.sense.raw then 9 else 0) ∧ D.sense.out = false)) :=
  ⟨settled_run (by decide), fun D h => by rcases h with rfl | rfl | rfl | rfl <;> decide⟩

theorem wit_ContradictionExpiryConfirms : ∀ D, D = { (doorway .openDoor .none false) with timer := some 500 } ∨
      D = { (doorway .released .pulled false) with timer := some 500 } →
    ModeSettled (doors4 0 1 D) ∧ (doors4 0 1 D).awake = true ∧ (doors4 0 1 D).store.cfgState = .ready ∧
    (doors4 0 1 D).doors.door[(2 : Fin 4)].configured = some true ∧ (doors4 0 1 D).doors.door[(2 : Fin 4)].timer.isSome = true ∧
    (doors4 0 1 D).roleOn (.locked 2) = true ∧ (doors4 0 1 D).roleOn (.closed 2) = false :=
  fun D h => ⟨settled_run ⟨rfl, rfl, rfl, rfl⟩, by rcases h with rfl | rfl <;> decide⟩

theorem wit_InterlocksFollowTheDoorways_state :
    (∀ p c, (doorBus 1 1 { (doorway .closed p false) with confirmed := c }).store.cfgState = .ready ∧
      (doorBus 1 1 { (doorway .closed p false) with confirmed := c }).doors.door[(2 : Fin 4)].configured = some true ∧
      (doorBus 1 1 { (doorway .closed p false) with confirmed := c }).doors.door[(3 : Fin 4)].configured ≠ some true) ∧
    held.store.cfgState ≠ .ready :=
  ⟨fun p c => by cases p <;> cases c <;> decide, by decide⟩
theorem wit_InterlocksFollowTheDoorways : { run0 with doors := { run0.doors with dbDemand := true } }.doors.dbDemand = true ∧
    run0.doors.dbDemand = false := by decide

theorem wit_WarningTickEvaluatesTriggers : (coolantAt 3215 ⟨.arming, 200⟩).awake = true ∧ ModeSettled (coolantAt 3215 ⟨.arming, 200⟩) ∧
    (coolantAt 3215 ⟨.arming, 200⟩).store.cfgState ≠ .preloading := ⟨by decide, settled_run (by decide), by decide⟩

/-- The entry of W20, listed ahead of W21 waiting, or waiting itself; every definition `coolant`, latched or not. -/
def waiting (latched acked listed : Bool) : WarningManager :=
  let e := fun (w : Fin 56) => ({ defn := w, cls := .check, acked := acked, present := true, chimed := true, number := 0 } : WarnEntry)
  { WarningManager.init with
    defs := Vector.replicate 56 { coolant with latched := latched }, nextNumber := 1
    active := if listed then [e 20] else [], queue := if listed then [e 21] else [e 20] }
theorem wit_WarningTickEvaluatesTriggers_lists : ((waiting true false true).keeps 20 ∧ (waiting true false false).keeps 20) ∧
    ¬(waiting true true true).keeps 20 ∧ ¬(waiting false false false).keeps 20 ∧
    (∀ e ∈ (waiting false false false).active, e.defn ≠ 20) ∧ (∃ e ∈ (waiting true true true).active, e.defn = 20) ∧
    (∃ e, (waiting true true true).queue = [] ++ e :: [] ∧ hasRoom e.cls (waiting true true true).active = true) ∧
    (∀ e ∈ (waiting true true true).queue, hasRoom e.cls ((List.finRange 56).take 10 |>.map (fun w =>
      { defn := w, cls := .check, acked := true, present := false, chimed := true, number := w.val })) = false) :=
  ⟨⟨⟨by decide, by decide⟩, ⟨by decide, by decide⟩⟩, fun h => absurd h.2 (by decide), fun h => absurd h.1 (by decide),
    by decide, by decide, ⟨_, rfl, by decide⟩, by decide⟩

/-- A full active list: 10 CHECK, 8 INFO and 6 SILENT entries, with every severity mapped to STOP. -/
def fullList : WarningManager :=
  { WarningManager.init with
    map := Vector.replicate 8 .stop, nextNumber := 24
    active := (List.finRange 56).take 24 |>.map (fun w =>
      { defn := w, cls := if w.val < 10 then .check else if w.val < 18 then .info else .silent, acked := true, present := true
        chimed := true, number := w.val }) }
theorem wit_ActivationListsTheWarning_full :
    (24 ≤ fullList.active.length ∧ ActiveListOk fullList ∧ fullList.holds 30 = false ∧ fullList.holds 0 = true ∧
      fullList.map[fullList.defs[(30 : Fin 56)].severity] = .stop ∧ hasRoom .silent fullList.active = false ∧
      hasRoom .check WarningManager.init.active = true ∧ fullList.active.Pairwise (fun a b => a.cls.rank ≤ b.cls.rank)) ∧
    (∃ v ∈ fullList.active, v.cls ≠ .stop ∧ v.defn = 23 ∧
      ∀ x ∈ fullList.active, x ≠ v → x.cls.rank < v.cls.rank ∨ (x.cls = v.cls ∧ x.number < v.number)) :=
  ⟨⟨by decide, ⟨by decide, by decide, by decide, by decide, by decide, by decide⟩, by decide, by decide, by decide, by decide, by decide,
    by decide⟩, by decide⟩

/-- `coolant` about to turn ON, with `n` CHECK entries listed of other definitions, or its own entry held. -/
def crowded (n : Nat) (own : Bool) : State :=
  (coolantAt 3215 ⟨.arming, 200⟩).modWarn (fun m => { m with
    map := Vector.replicate 8 .check, nextNumber := 11
    active := (List.finRange 56).take n |>.map (fun w =>
      { defn := if own then 20 else w, cls := .check, acked := true, present := false, chimed := true, number := w.val }) })
theorem wit_ActivationListsTheWarning :
    (∀ n own, n = 9 ∧ own = false ∨ n = 10 ∧ own = false ∨ n = 1 ∧ own = true →
      ModeSettled (crowded n own) ∧ (crowded n own).awake = true ∧ (crowded n own).store.cfgState ≠ .preloading ∧
      (crowded n own).warn.defs[(20 : Fin 56)] = coolant ∧ coolant.inUse = true ∧ (crowded n own).triggerHeld 20 coolant = false ∧
      (crowded n own).warn.trigger[(20 : Fin 56)] = ⟨.arming, 200⟩ ∧ ((crowded n own).warnConds 20 coolant).1 = true ∧
      coolant.onDelay = 200 ∧ (crowded n own).warn.map[coolant.severity] = .check ∧ (crowded n own).warn.holds 20 = own) ∧
    hasRoom .check (crowded 9 false).warn.active = true ∧ hasRoom .check (crowded 10 false).warn.active = false :=
  ⟨fun n own h => ⟨settled_run ⟨rfl, rfl, rfl, rfl⟩, by rcases h with ⟨rfl, rfl⟩ | ⟨rfl, rfl⟩ | ⟨rfl, rfl⟩ <;> decide⟩, by decide⟩

theorem wit_TripsAndRetriesFollowTheTable :
    (∀ L, L = telltale .normal 9 0 ∨ L = telltale .retry 9 2 ∨ L = telltale .retry 9 3 ∨
        L = { (telltale .shutdown 10 1) with wait := some 1000 } ∨ L = { (telltale .retry 0 2) with proof := 499 } ∨
        L = { (telltale .normal 0 0) with openCount := 49 } →
      ModeSettled (withLamp 11 L run0) ∧ (withLamp 11 L run0).awake = true ∧ outputEval (withLamp 11 L run0) = withLamp 11 L run0 ∧
      ((withLamp 11 L run0).energised 11 = true ↔ L.protection ≠ .shutdown)) ∧
    (telltale .normal 9 0).tripAt ≤ 9 + 1 ∧ (telltale .retry 9 3).tripAt ≤ 9 + 1 ∧ 0 < (telltale .normal 0 0).openLevel ∧
    run0.power.mode ≠ .crank :=
  ⟨fun L h => ⟨settled_run ⟨rfl, rfl, rfl, rfl⟩, by rcases h with rfl | rfl | rfl | rfl | rfl | rfl <;> decide⟩, by decide⟩

/-- A chime after a one-shot. -/
def chiming (door : Bool) (standing shot : Option ChimePattern) : State :=
  run0.modChime (fun c => { c with playing := .oneshot .double 1, doorStanding := door, warnStanding := standing, pendingShot := shot })
theorem wit_FlashAndChimeEventsTurn : (withLamp 15 { Lamp.init with drive := .flash } run0).out.lamp[(15 : Fin 16)].drive = .flash ∧
    { serv0 with svc := { serv0.svc with overrides := [(.chime, .flash)] } }.overrideOf .chime = some .flash ∧
    (∀ door, (chiming door none none).awake = true ∧ (chiming door none none).out.chime.playing = .oneshot .double 1 ∧
      (chiming door none none).overrideOf .chime = none ∧ (chiming door none none).out.chime.doorStanding = door) ∧
    (chiming false none (some .single)).out.chime.pendingShot = some .single ∧
    (chiming false (some .repeatSlow) none).out.chime.warnStanding = some .repeatSlow := by decide

theorem wit_FlashAndChimeEventsTurn_both : ∀ s, s = chiming true none (some .repeatFast) ∨ s = chiming true (some .single) (some .double) ∨
      s = chiming false (some .double) (some .repeatSlow) →
    s.awake = true ∧ s.out.chime.playing = .oneshot .double 1 ∧ s.overrideOf .chime = none ∧ ∃ d q, s.out.chime.pendingShot = some q ∧
      (if s.out.chime.doorStanding then d = .repeatFast else s.out.chime.warnStanding = some d) ∧
      ((q = d ↔ s = chiming true none (some .repeatFast)) ∧ (q.rank < d.rank ↔ s = chiming false (some .double) (some .repeatSlow)) ∧
        (d.rank < q.rank ↔ s = chiming true (some .single) (some .double))) := by
  rintro s (rfl | rfl | rfl)
  · exact ⟨by decide, by decide, by decide, .repeatFast, .repeatFast, by decide⟩
  · exact ⟨by decide, by decide, by decide, .repeatFast, .double, by decide⟩
  · exact ⟨by decide, by decide, by decide, .double, .repeatSlow, by decide⟩

/-- A record of W20 by its status, aging and last odometer; and a FAULTS area of given records under a header. -/
def aged (active : Bool) (aging odo : Nat) : FaultRec :=
  { code := ⟨.warning, 20, .raised⟩, active := active, count := 255, aging := aging, firstOdo := 7, lastOdo := odo, speed := 65535,
    supply := 24400, mode := 2, context := none }
def areaOf (header : List Byte) (rs : List (Option FaultRec)) : List Byte := header ++ rs.flatMap positionBytes

theorem wit_FaultNoticesAreFiled :
    ((full true).fault.record[(31 : Fin 32)].map (fun r => (r.code, r.active)) = some (⟨.warning, 31, .raised⟩, true) ∧
      (full false).fault.record[(3 : Fin 32)].map (fun r => (r.code, r.active)) = some (⟨.warning, 3, .raised⟩, false) ∧
      (∀ (q : Fin 32), ((full false).fault.record[q].map (fun r => r.code.index)) = some q.val)) ∧
    (∀ q : Fin 32, ((full true).fault.record[q]).any (fun r => r.active && decide (r.code ≠ ⟨.lamp, 9, .lampFail⟩)) = true) ∧
    (run0.fault.record[(0 : Fin 32)] = none ∧ run0.fault.loaded = true) ∧ StoreIdle run0 ∧
    { run0.fault with loaded := false }.loaded = false ∧
    ((full false).fault.record[(17 : Fin 32)].map (fun r => (r.active, r.aging, r.lastOdo)) = some (false, 12, 850000) ∧
      (∀ q : Fin 32, q ≠ 17 → ((full false).fault.record[q]).all (fun r => r.active || decide (r.aging < 12 ∨ 850000 < r.lastOdo)))) ∧
    (∀ n, n = 38 ∨ n = 39 → ({ run0 with fault := { run0.fault with
        record := run0.fault.record.set 5 (some (aged false n 9)) } }.fault.record[(5 : Fin 32)] = some (aged false n 9)) ∧
      (aged false n 9).active = false ∧ (39 ≤ (aged false n 9).aging ↔ n = 39)) :=
  ⟨by decide, by decide, by decide, run0_idle, by decide, by decide, by rintro n (rfl | rfl) <;> decide⟩
/-- The mirror being loaded, with one notice held, of an open L9 that has gone. -/
def loading (own : Bool) : State := { run0 with fault := { run0.fault with
  loading := true, loaded := false
  held := [⟨if own then ⟨.lamp, 9, .lampFail⟩ else ⟨.store, 0, .raised⟩, true, ⟨7, 0, 3000, 0⟩, none⟩] } }
theorem wit_FaultNoticesAreFiled_held : run0.fault.loading = false ∧ run0.fault.held = [] ∧ (loading true).fault.loading = true ∧
    (∃ h ∈ (loading true).fault.held, h.code = ⟨.lamp, 9, .lampFail⟩) ∧
    (∀ h ∈ (loading false).fault.held, h.code ≠ ⟨.lamp, 9, .lampFail⟩) ∧ ∃ h rest, (loading true).fault.held = h :: rest :=
  ⟨by decide, by decide, by decide, by decide, by decide, _, _, rfl⟩
theorem wit_FaultNoticesAreFiled_loaded :
    (let bytes := areaOf (List.replicate 64 0) [none, some (aged false 3 8), some (aged true 3 9)]
     parsePosition (areaPosition bytes 0) = none ∧ parsePosition (areaPosition bytes 1) = some (aged false 3 8) ∧
     parsePosition (areaPosition bytes 2) = some (aged true 3 9) ∧ parsePosition (areaPosition bytes 31) = none ∧
     sum8 (bytes.take 64) = 0 ∧ at1 (bytes.take 64) 1 ≤ 1) ∧ ¬(sum8 ((areaOf [1] []).take 64) = 0) ∧
    (∀ r, r = aged true 39 99999999 ∨ r = { aged false 0 7 with code := ⟨.doorway, 3, .contradiction⟩, context := some (255, 0) } →
      r.code.valid = true ∧ 1 ≤ r.count ∧ r.count ≤ 255 ∧ r.aging ≤ 39 ∧ r.firstOdo ≤ r.lastOdo ∧ r.lastOdo ≤ 99999999 ∧
      r.speed < 65536 ∧ r.supply < 65536 ∧ r.mode < 256 ∧ (r.context.isSome = true ↔ r.code.source = .doorway)) := by
  refine ⟨by decide +kernel, by decide, ?_⟩
  rintro r (rfl | rfl) <;> decide


/-- A store access on the Display Link as the last step leaves it, with the fault indication clear. -/
def slotWriting : State :=
  { tenth 10 0 true with
    store := { run0.store with inFlight := some { newAccess (.record .odo) true .odo 48 16 (slotBytes 10) with odometer := 10 } } }
theorem wit_AnsweredAttemptsMoveTheAccess :
    (∀ n, n = 4 ∨ n = 2 → (writing n).awake = true ∧ MemoryOk (writing n) ∧ ModeSettled (writing n) ∧
      StoreIdle { writing n with store := { (writing n).store with inFlight := none } } ∧ (writing n).store.faultStands = false ∧
      ((writing n).link .display).inFlight = some (0x31#8, 5#8)) ∧
    ((writing 4).store.inFlight.map (fun a => (a.inArea, decide (a.done + a.step < a.total))) = some (true, true)) ∧
    ((writing 2).store.inFlight.map (fun a => (a.inArea, decide (a.total ≤ a.done + a.step))) = some (true, true)) ∧
    ((reading 0).awake = true ∧ MemoryOk (reading 0) ∧ ModeSettled (reading 0) ∧
      StoreIdle { reading 0 with store := { (reading 0).store with inFlight := none } } ∧
      (reading 0).store.inFlight.map (fun a => (a.inArea, decide (a.total ≤ a.done + a.step))) = some (true, true)) ∧
    (slotWriting.awake = true ∧ MemoryOk slotWriting ∧ ModeSettled slotWriting ∧
      StoreIdle { slotWriting with store := { slotWriting.store with inFlight := none } } ∧
      slotWriting.store.inFlight.map (fun a => (a.inArea, decide (a.total ≤ a.done + a.step))) = some (true, true)) :=
  ⟨fun n h => ⟨rfl, ⟨by rcases h with rfl | rfl <;> decide, by rcases h with rfl | rfl <;> decide⟩, settled_run ⟨rfl, rfl, rfl, rfl⟩, ⟨rfl, rfl, rfl, rfl, rfl⟩, rfl, rfl⟩, by decide, by decide,
    ⟨rfl, ⟨by decide, by decide⟩, settled_run (by decide), idle_of (by decide), by decide⟩,
    ⟨rfl, ⟨by decide, by decide⟩, settled_run (by decide), idle_of (by decide), by decide⟩⟩
/-- A state with an access in flight, and with a request of a link in flight. -/
def busyWith (a : Access) (s : State) : State := { s with store := { s.store with inFlight := some a } }
def asked (l : LinkId) (code : Byte) (s : State) : State := s.modLink l (fun r => { r with inFlight := some (code, 5#8) })

/-- The last step of each access that spans whole areas or slots. -/
def lastStep (p : Purpose) (w : Bool) (area : Area) (offset total : Nat) (attempts : Nat) : Access :=
  { newAccess p w area offset total (List.replicate total 0) with done := total - 16, attempts := attempts }
def lastSteps (attempts : Nat) : List Access :=
  [lastStep (.release .display true) true .config 0 4096 attempts, lastStep .faultClear true .faults 0 1600 attempts,
   lastStep .odoSet true .odo 48 16 attempts, lastStep .preOdo false .odo 0 64 attempts,
   lastStep .preFaults false .faults 0 1600 attempts, lastStep .preConfig false .config 0 4096 attempts,
   lastStep .parkOdo true .odo 0 16 attempts, lastStep (.parkItem .header) true .faults 0 64 attempts,
   lastStep (.parkItem (.position 31)) true .faults 1552 48 attempts]

theorem wit_AnsweredAttemptsMoveTheAccess_last : (∀ a ∈ lastSteps 2, a.inArea = true ∧ a.total ≤ a.done + a.step) ∧
    (∀ a l s, s = busyWith a (asked l 0x33 run0) → s.awake = true ∧ MemoryOk s ∧ ModeSettled s ∧
      StoreIdle { s with store := { s.store with inFlight := none } } ∧ s.store.faultStands = false ∧ s.fault.held = [] ∧
      s.store.inFlight = some a ∧ (s.link l).inFlight = some (0x33#8, 5#8)) ∧
    (let a := { lastStep .preOdo false .odo 0 64 0 with got := slotBytes 7 ++ slotBytes 9 ++ List.replicate 16 0xFF }
     let got := a.got ++ (List.range a.step).map (fun i => storeByte run0.eeprom (a.start + i))
     slotValue got 0 = some 7 ∧ slotValue got 1 = some 9 ∧ slotValue got 2 = none ∧ slotValue got 3 = none) ∧
    (∀ i : Fin 4, slotValue (List.replicate 64 0xFF) i.val = none) ∧
    (ModeSettled (busyWith (lastStep .preConfig false .config 0 4096 0) (starting .preloading true false)) ∧
      (starting .preloading true false).power.lineSettle.isSome = true ∧ (starting .preloading true false).svc.isOpen = false) := by
  refine ⟨by decide, ?_, by decide, by decide, Or.inl rfl, by decide⟩
  rintro a (_ | _) s rfl <;>
    exact ⟨rfl, run0_memory, settled_run ⟨rfl, rfl, rfl, rfl⟩, idle_of ⟨rfl, rfl, rfl, rfl, rfl⟩, rfl, rfl, rfl, rfl⟩

theorem wit_AnsweredAttemptsMoveTheAccess_held : (∀ a s, a = lastStep .preFaults false .faults 0 1600 0 → s = busyWith a (loading true) →
    s.awake = true ∧ MemoryOk s ∧ ModeSettled s ∧ StoreIdle { s with store := { s.store with inFlight := none } } ∧
    s.store.faultStands = false ∧ s.fault.held ≠ [] ∧ s.store.inFlight = some a ∧ a.total ≤ a.done + a.step) := by
  rintro a s rfl rfl
  exact ⟨rfl, run0_memory, settled_run ⟨rfl, rfl, rfl, rfl⟩, idle_of ⟨rfl, rfl, rfl, rfl, rfl⟩, rfl, by decide, rfl, by decide⟩

/-- PARKING at the limit of its timer, its parking write waiting behind the last step of a scheduled write of the same value,
and a read of the display's behind both. -/
def caughtUp : State :=
  let s := asked .display 0x30 (parked 5000 none)
  { s with
    speed := { s.speed with working := 1234, stored := 1224, scheduled := .inFlight, parking := .waiting }
    store := { s.store with
      inFlight := some { lastStep (.record .odo) true .odo 16 16 0 with odometer := 1234 }
      waiting := { PendingAccesses.init with parkFlush := some .parkOdo, display := some (.linkRead .display .user 0 4) } } }
theorem wit_AnsweredAttemptsMoveTheAccess_caughtUp : caughtUp.awake = true ∧ MemoryOk caughtUp ∧ caughtUp.store.faultStands = false ∧
    caughtUp.power.mode = .parking ∧ caughtUp.power.ign.level = false ∧ caughtUp.power.acc.level = false ∧
    caughtUp.power.claim = none ∧ caughtUp.pointersReleased = true ∧ caughtUp.speed.parkingAgain = false ∧
    caughtUp.fault.part.over = true ∧ caughtUp.store.waiting.preload = none ∧
    caughtUp.store.inFlight.map (fun a => (a.inArea, decide (a.total ≤ a.done + a.step), decide (caughtUp.speed.working ≤ a.odometer))) =
      some (true, true, true) :=
  ⟨rfl, run0_memory, rfl, rfl, rfl, rfl, rfl, by decide, rfl, rfl, rfl, by decide⟩

/-- R41, R206: the dropped parking write ends the flush; the part enters WATCH and the read is dropped (R187). -/
theorem test_dropped_parking_write : (after .storeAttemptAnswered caughtUp).power.mode = .watch ∧
    (after .storeAttemptAnswered caughtUp).store.inFlight = none := by decide +kernel

/-- PARKING under a claim with the odometer's part, the fault part and its items as given. -/
def flushing (odo part : FlushPart) (items : List WriterItem) : State :=
  let s := parked 20 (some 1)
  { s with speed := { s.speed with parking := odo }
           fault := { s.fault with part := part, partItems := items, dirty := s.fault.dirty.set 31 true } }
theorem wit_AnsweredAttemptsMoveTheAccess_flush : ∀ a odo part items, (a, odo, part, items) ∈
      [(lastStep .parkOdo true .odo 0 16 0, FlushPart.inFlight, FlushPart.done, []),
       (lastStep .parkOdo true .odo 0 16 0, .inFlight, .waiting, []),
       (lastStep (.parkItem .header) true .faults 0 64 0, .done, .inFlight, []),
       (lastStep (.parkItem (.position 30)) true .faults 1504 48 0, .done, .inFlight, [.position 31, .header]),
       (lastStep (.parkItem (.position 31)) true .faults 1552 48 0, .done, .inFlight, [WriterItem.header])] →
    ModeSettled (busyWith a (flushing odo part items)) ∧ (busyWith a (flushing odo part items)).store.waiting = PendingAccesses.init ∧
    (busyWith a (flushing odo part items)).fault.items = [] ∧ (flushing odo part items).speed.parkingAgain = false ∧
    (flushing odo part items).fault.partAgain = false ∧ (flushing odo part items).store.faultStands = false ∧
    (part = .waiting → (flushing odo part items).fault.dirty[(31 : Fin 32)] = true ∧
      ∀ q : Fin 32, q.val < 31 → (flushing odo part items).fault.dirty[q] = false) := by
  intro a odo part items h
  simp only [List.mem_cons, List.not_mem_nil, or_false, Prod.mk.injEq] at h
  rcases h with ⟨rfl, rfl, rfl, rfl⟩ | ⟨rfl, rfl, rfl, rfl⟩ | ⟨rfl, rfl, rfl, rfl⟩ | ⟨rfl, rfl, rfl, rfl⟩ | ⟨rfl, rfl, rfl, rfl⟩ <;>
    exact ⟨settled_parking ⟨rfl, rfl, rfl, rfl⟩, rfl, rfl, rfl, rfl, rfl, by decide⟩

theorem wit_LostAttemptsEndInStoreFault_last : (∀ a ∈ lastSteps 2, a.inArea = true ∧ 2 ≤ a.attempts) ∧
    (∀ a ∈ lastSteps 1, a.attempts < 2) ∧
    (∀ a s, s = busyWith a (asked .service 0x49 run0) → ModeSettled s ∧ MemoryOk s ∧ s.store.inFlight = some a ∧
      (s.link .service).inFlight = some (0x49#8, 5#8)) := by
  refine ⟨by decide, by decide, ?_⟩
  rintro a s rfl
  exact ⟨settled_run ⟨rfl, rfl, rfl, rfl⟩, run0_memory, rfl, rfl⟩
theorem wit_LostAttemptsEndInStoreFault_write :
    (let a := { newAccess (.linkWrite .display .user 30 [9, 9, 9, 9] false) true .user 30 4 [9, 9, 9, 9] with attempts := 2, done := 2 }
     ModeSettled (busyWith a (writing 4)) ∧ MemoryOk (busyWith a (writing 4)) ∧ a.inArea = true ∧ 2 ≤ a.attempts ∧
      ((busyWith a (writing 4)).link .display).inFlight = some (0x31#8, 5#8)) :=
  ⟨settled_run ⟨rfl, rfl, rfl, rfl⟩, ⟨by decide, by decide⟩, by decide, by decide, by decide⟩
theorem wit_LostAttemptsEndInStoreFault : MemoryOk (reading 1) ∧ MemoryOk (reading 2) ∧ ModeSettled (reading 2) ∧
    ((reading 1).store.inFlight.map (fun a => decide (a.attempts < 2)) = some true) ∧
    ((reading 2).store.inFlight.map (fun a => decide (2 ≤ a.attempts)) = some true) ∧
    ((reading 2).link .display).inFlight = some (0x30#8, 5#8) :=
  ⟨⟨by decide, by decide⟩, ⟨by decide, by decide⟩, settled_run (by decide), by decide, by decide, by decide⟩

/-- `n` replies waiting on the Display Link behind a frame, with a request in flight or none. -/
def queued (n : Nat) (busy : Bool) : State :=
  { run0 with links := { run0.links with display := { Link.init with
      inFlight := if busy then some (0x30, 5) else none, tx := some (replyFrame 0x20 1 .ok [] false)
      replies := List.replicate n (replyFrame 0x20 2 .ok [] false) } } }
theorem wit_RequestsAreTestedInOrder :
    ((Instr.statusGet .display 6).kind = .request .display ∧ (Instr.statusGet .display 6).requestFrame = some (0x20, 6, [])) ∧
    ((queued 7 true).awake = true ∧ ((queued 7 true).link .display).inFlight.isSome = true ∧
      ((queued 7 true).link .display).replies.length < 8) ∧
    (8 ≤ ((queued 8 true).link .display).replies.length ∧ ((queued 8 true).link .display).inFlight.isSome = true) ∧
    (9 ≤ ((queued 9 false).link .display).replies.length) ∧
    (((starting .preloading true false).link .display).inFlight = none ∧ ((starting .preloading true false).link .display).replies.length < 9) ∧
    (Admits .display (queued 8 false) ∧ Admits .service run0 ∧ run0.svc.isOpen = false) ∧
    (0x40 ≤ (0x40#8).toNat ∧ (0x1F#8).toNat < 0x20 ∧ 0x4B < (0x4C#8).toNat ∧ 0x33 < (0x3F#8).toNat) :=
  ⟨by decide, by decide, by decide, by decide, by decide, ⟨admits_of (by decide), run0_admits.2.1, by decide⟩, by decide⟩
theorem wit_OtherFramesAreDiscarded : run0.awake = true ∧ (run0.link .display).rx = [] ∧ 0x02#8 ≠ 0x01#8 ∧
    (List.replicate 120 0#8).length ≤ maxPayload ∧ maxPayload < (List.replicate 121 0#8).length ∧
    ((2#8).toNat < 3 ∧ 123 < (124#8).toNat ∧ 3 ≤ (3#8).toNat ∧ [1#8, 0x20, 9, 0].length = (3#8).toNat + 1 ∧
      0x7E#8 ∉ [1#8, 0x20, 9, 0] ∧ sum8 (3#8 :: [1#8, 0x20, 9, 0]) ≠ 0) := by decide
theorem wit_TransmittersSendTheOldestReply_report :
    (let s := (queued 0 false).modLink .display (fun r => { r with flag := #v[false, false, true, false, false, false, false, true] })
     s.awake = true ∧ (s.link .display).tx = some (replyFrame 0x20 1 .ok [] false) ∧ (s.link .display).replies = [] ∧
      (s.link .display).flag[Topic.power.index] = true ∧ (∀ i : Fin 8, i < Topic.power.index → (s.link .display).flag[i] = false)) := by
  decide
theorem wit_TransmittersSendTheOldestReply :
    ((queued 0 false).awake = true ∧ ((queued 0 false).link .display).tx = some (replyFrame 0x20 1 .ok [] false) ∧
      ((queued 0 false).link .display).replies = [] ∧ ((queued 0 false).link .display).flag = Vector.replicate 8 false) ∧
    ((queued 2 false).link .display).replies = replyFrame 0x20 2 .ok [] false :: [replyFrame 0x20 2 .ok [] false] ∧
    ((after (.restart .service 1) serv0).link .service).tx.map (fun f => f.restarts) = some true ∧
    (run0.link .display).tx = none ∧
    (let s := after (.frameTransmitted .display) (after (.reportSet .display 1 0x80 100 38 2) run0)
     (s.link .display).period.isSome = true ∧ (s.link .display).enabled[(7 : Fin 8)] = true ∧ s.outgoing .display ≠ []) ∧
    (let s := after (.frameTransmitted .display) (after (.frameTransmitted .display) (after (.reportSet .display 1 0x80 100 38 2) run0))
     s.outgoing .display = [] ∧ (∀ i : Fin 8, i.val < 7 → (s.link .display).flag[i] = false)) ∧
    (unsaved (after (.restart .service 1) serv0)).store.source = some .unsaved ∧
    (after (.restart .service 1) serv0).store.source ≠ some .unsaved := by decide

theorem wit_ReadsLeaveThePartAlone : ((starting .preloading true false).awake = true ∧
      ((starting .preloading true false).link .display).inFlight = none ∧
      ((starting .preloading true false).link .display).replies.length < replyPlaces) ∧ Admits .display run0 ∧ Admits .service run0 ∧
    ((39#8).toNat ≤ 39 ∧ 39 < (40#8).toNat ∧ (40#8).toNat ≤ 40 ∧ 40 < (41#8).toNat ∧ (55#8).toNat ≤ 55 ∧ 55 < (56#8).toNat ∧
      (31#8).toNat ≤ 31 ∧ 31 < (32#8).toNat ∧ (1#8).toNat ≤ 1 ∧ 1 < (2#8).toNat) := ⟨by decide, run0_admits.1, run0_admits.2.1, by decide⟩

/-- W47 and W20 in use, the first FED. -/
def fedWarn : State := withWarn 47 { coolant with kind := .fed } ⟨.off, 0⟩ (coolantAt 0 ⟨.off, 0⟩)
theorem wit_FeedsAndGaugeRecordsAreStored :
    (Admits .display run0 ∧ (∀ e ∈ [(5#8, 0x8000#16), (0#8, 1#16)], e.1.toNat ≤ 5) ∧ ([(5#8, 0x8000#16), (0#8, 1#16)].map (fun e => e.1)).Nodup) ∧
    (∃ e ∈ [(6#8, 0x8000#16)], 5 < e.1.toNat) ∧ ¬([(5#8, 1#16), (5#8, 2#16)].map (fun e => e.1)).Nodup ∧
    (Admits .display fedWarn ∧ (fedWarn.warn.defs[(47 : Fin 56)]).inUse = true ∧ (fedWarn.warn.defs[(47 : Fin 56)]).kind = .fed ∧
      (fedWarn.warn.defs[(20 : Fin 56)]).kind ≠ .fed) ∧
    (Admits .service serv0 ∧ serv0.svc.isOpen = true ∧ serv0.store.cfgState = .ready) ∧
    (Admits .display held ∧ held.store.cfgState = .configHold) ∧ gaugeFailingItem speedoRaw = none ∧
    gaugeFailingItem { speedoRaw with gain := 4096 } = some 2 :=
  ⟨⟨run0_admits.1, by simp, by decide⟩, by simp, by decide, ⟨admits_of (by decide), by decide, by decide, by decide⟩,
    ⟨run0_admits.2.2, by decide, by decide⟩, ⟨admits_of (by decide), by decide⟩, by decide, by decide⟩
theorem wit_TripClearZeroesTheNamedTrip : Admits .display run0 ∧ Admits .service run0 ∧ 1 < (2#8).toNat :=
  ⟨run0_admits.1, run0_admits.2.1, by decide⟩
theorem wit_LampRequestsSetAndReset :
    (∀ L, L = telltale .shutdown 10 3 → Admits .display (withLamp 11 L run0) ∧ ModeSettled (withLamp 11 L run0) ∧
      outputEval (withLamp 11 L run0) = withLamp 11 L run0 ∧ (withLamp 11 L run0).out.lamp[(11 : Fin 16)].fn = .telltale ∧
      (withLamp 11 L run0).out.lamp[(10 : Fin 16)].fn ≠ .telltale) :=
  fun L h => ⟨admits_of (by cases h; decide), settled_run ⟨rfl, rfl, rfl, rfl⟩, by cases h; decide⟩

theorem wit_LampRequestsSetAndReset_night : Admits .display (roled 3 .headlamp 1 (withLamp 4 (telltale .normal 0 0) run0)) ∧
    (roled 3 .headlamp 1 (withLamp 4 (telltale .normal 0 0) run0)).roleOn .headlamp = true ∧
    (roled 3 .headlamp 1 (withLamp 4 (telltale .normal 0 0) run0)).out.lamp[(4 : Fin 16)].fn = .telltale ∧
    run0.roleOn .headlamp = false := ⟨admits_of (by decide), by decide⟩

theorem wit_AcknowledgementsAreTaken_kept :
    (let s := { held with doors := { held.doors with door := Vector.replicate 4 { (doorway .unconfigured .pulled true) with configured := some false } } }
     Admits .display s ∧ ModeSettled s ∧ s.store.cfgState ≠ .ready ∧ s.doors.door[(3 : Fin 4)].state ≠ .disabled ∧
      s.doors.door[(3 : Fin 4)].phase = .pulled) :=
  ⟨admits_of (by decide), settled_run ⟨rfl, rfl, rfl, rfl⟩, by decide⟩

theorem wit_AcknowledgementsAreTaken :
    (Admits .display run0 ∧ run0.warn.presented = none ∧ 55 < (56#8).toNat ∧ (55#8).toNat ≤ 55) ∧
    (∀ p, Admits .display (presents 48 p) ∧ (presents 48 p).warn.presented = some 48 ∧
      (∀ e ∈ (presents 48 p).warn.active, e.defn = 48 ∧ e.present = p)) ∧
    (∀ D, D = doorway .released .pulled true ∨ D = doorway .released .restoredUnacked false ∨ D = doorway .released .acked true →
      Admits .display (doors4 1 1 D) ∧ ModeSettled (doors4 1 1 D) ∧ (∀ k : Fin 4, (doors4 1 1 D).doors.door[k].configured = some true) ∧
      (doors4 1 1 D).doors.door[(3 : Fin 4)].state ≠ .disabled) ∧ 3 < (4#8).toNat :=
  ⟨⟨run0_admits.1, by decide⟩, fun p => ⟨by cases p <;> exact admits_of (by decide), by cases p <;> decide⟩,
    fun D h => ⟨by rcases h with rfl | rfl | rfl <;> exact admits_of (by decide), settled_run ⟨rfl, rfl, rfl, rfl⟩,
      by rcases h with rfl | rfl | rfl <;> decide⟩, by decide⟩

theorem wit_StoreRequestsHoldTheirReplies :
    (ModeSettled run0 ∧ Admits .display run0 ∧ StoreIdle run0 ∧ Area.ofCode (4#8).toNat = some .user ∧ (96#8).toNat ≤ 96 ∧
      (1023#16).toNat < Area.user.size ∧ Area.user.size ≤ (1024#16).toNat) ∧
    (ModeSettled serv0 ∧ Admits .service serv0 ∧ StoreIdle serv0 ∧ Area.ofCode (0#8).toNat = some .ident ∧ (127#16).toNat < 128 ∧
      128 ≤ (255#16).toNat ∧ (255#16).toNat < Area.ident.size ∧ serv0.svc.isOpen = true) ∧ Admits .service run0 ∧
    ((rolling true).speed.loaded = true ∧ (tenth 500 0 true).speed.working ≤ 500 ∧ (tenth 500 0 false).speed.loaded = false ∧
      500 < (tenth 501 0 true).speed.working ∧ (99999999#32).toNat ≤ 99999999 ∧ 99999999 < (100000000#32).toNat) :=
  ⟨⟨run0_settled, run0_admits.1, run0_idle, by decide⟩,
    ⟨serv0_settled, run0_admits.2.2, idle_of (by decide), by decide⟩, run0_admits.2.1, by decide⟩

/-! A smallest image that passes every check (R193), read by runs so that the kernel can check it. -/

/-- Bytes given as repeated runs, and the byte at an index of them. -/
def runBytes (rs : List (Nat × List Byte)) : List Byte := rs.flatMap (fun r => (List.replicate r.1 r.2).flatten)
def runAt : List (Nat × List Byte) → Nat → Byte
  | [], _ => 0
  | r :: rs, i => if i < r.1 * r.2.length then r.2.getD (i % r.2.length) 0 else runAt rs (i - r.1 * r.2.length)

theorem runAt_eq (rs : List (Nat × List Byte)) : ∀ i, (runBytes rs).getD i 0 = runAt rs i := by
  have one : ∀ (bs : List Byte) (n i : Nat), i < n * bs.length → (List.replicate n bs).flatten[i]? = bs[i % bs.length]? := by
    intro bs n
    induction n with
    | zero => intro i h; omega
    | succ n ih =>
      intro i h
      rw [Nat.succ_mul] at h
      rw [List.replicate_succ, List.flatten_cons, List.getElem?_append]
      split
      · rw [Nat.mod_eq_of_lt ‹_›]
      · rw [ih _ (by omega), ← Nat.mod_eq_sub_mod (by omega)]
  induction rs with
  | nil => intro i; rfl
  | cons r rs ih =>
    intro i
    simp only [runBytes, List.flatMap_cons, runAt, List.getD_eq_getElem?_getD, List.getElem?_append, List.length_flatten,
      List.map_replicate, List.sum_replicate_nat] at ih ⊢
    split
    · rw [one _ _ _ ‹_›]
    · exact ih _

theorem stagingByte_ofBytes (bs : List Byte) : ∀ k a, k ≤ a → stagingByte (Mem.ofBytes 0#8 k bs) a = bs.getD (a - k) 0 := by
  induction bs with
  | nil => intro k a h; rfl
  | cons v vs ih =>
    intro k a h
    unfold stagingByte Mem.ofBytes
    rw [Mem.read_consCell v (Mem.ofBytes_wfFrom _ _) a]
    split
    · subst a; simp
    · obtain ⟨n, hn⟩ : ∃ n, a - k = n + 1 := ⟨a - k - 1, by omega⟩
      rw [hn, List.getD_cons_succ]
      have := ih (k + 1) a (by omega)
      rw [if_neg (by omega)]
      rwa [show a - (k + 1) = n by omega] at this

def soundRuns : List (Nat × List Byte) :=
  [(1, [0x4B, 0x46, 0x07, 0xEA, 0x2A, 0x12, 0x12, 0x34, 0x56, 0x70, 0x02, 0x02, 0x80, 0x2A, 0x00, 0x04, 0x2A, 0x41, 0x50, 0x3F,
      0x40, 0x08, 0x3F, 0xC3, 0x88, 0x78, 0x40, 0x62, 0x7E, 0x60, 0x04, 0]),
   (40, [0, 1, 1, 0, 0, 0, 0, 0, 0, 0, 0, 0, 0, 0, 0xFF, 0]), (1, [0, 0, 0x1F, 0x40]),
   (6, List.replicate 15 0 ++ [1, 1, 1, 1, 2, 0, 0, 0, 0, 0, 1] ++ List.replicate 30 0), (1, [0, 0, 0, 0, 0xFF, 0, 0, 0]), (904, [0]),
   (16, [1, 1, 0, 1, 0, 0]), (1, [0, 50, 0, 0, 0, 0])]
def soundImage : Mem := Mem.ofBytes 0#8 0 (runBytes soundRuns)
theorem sound_image : imageFailure (stagingByte soundImage) = none := by
  have h : stagingByte soundImage = runAt soundRuns := by
    funext a; rw [soundImage, stagingByte_ofBytes _ 0 a (by omega)]; exact runAt_eq _ _
  rw [h]; decide +kernel

theorem wit_RestartReinitialises_unsaved : ∀ s, s = unsaved { (tenth 500 0 true) with store := { run0.store with staging := soundImage } } →
    s.awake = true ∧ s.store.source = some .unsaved ∧ imageFailure (stagingByte s.store.staging) = none ∧ StoreIdle s ∧
    (∀ a, s.store.inFlight = some a → a.isWrite = false) ∧ (imageFailure (stagingByte run0.store.staging)).isSome = true := by
  rintro s rfl
  exact ⟨by decide, by decide, sound_image, idle_of (by decide), fun a h => (by cases h), by decide⟩

/-- A sound staging image under CONFIG_HOLD. -/
def mended : State := { held with store := { held.store with staging := soundImage } }
theorem wit_UploadsAndClearsAreStaged :
    (MemoryOk held ∧ ModeSettled held ∧ Admits .display held ∧ held.store.cfgState = .configHold ∧ held.store.releasing = false ∧
      held.store.source ≠ some .unsaved ∧ (imageFailure (stagingByte held.store.staging)).isSome = true ∧ StoreIdle held ∧
      (4095#16).toNat < 4096 ∧ 4096 ≤ (4096#16).toNat) ∧
    (MemoryOk run0 ∧ Admits .display run0 ∧ Admits .service run0 ∧ run0.store.cfgState = .ready ∧ run0.svc.isOpen = false) ∧
    { held with store := { held.store with releasing := true } }.store.releasing = true ∧
    (MemoryOk mended ∧ ModeSettled mended ∧ Admits .display mended ∧ imageFailure (stagingByte mended.store.staging) = none ∧
      StoreIdle mended) ∧
    ((withChan 8 (faulty .openLine) serv0).presentFaults ≠ [] ∧ Admits .service (withChan 8 (faulty .openLine) serv0)) ∧
    (Admits .service serv0 ∧ serv0.svc.isOpen = true ∧ StoreIdle serv0 ∧ serv0.presentFaults = []) :=
  ⟨⟨⟨by decide, by decide⟩, settled_run (by decide), admits_of (by decide), by decide, by decide, by decide, by decide, idle_of (by decide),
      by decide⟩, ⟨run0_memory, run0_admits.1, run0_admits.2.1, by decide⟩, by decide,
    ⟨⟨by decide, Mem.ofBytes_wf 0 _⟩, settled_run (by decide), admits_of (by decide), sound_image, idle_of (by decide)⟩,
    ⟨by decide, admits_of (by decide)⟩, ⟨run0_admits.2.2, by decide, idle_of (by decide), by decide⟩⟩

theorem wit_ServiceModeOpensAndCloses :
    (Admits .service (roled 20 .parkBrake 1 run0) ∧ (roled 20 .parkBrake 1 run0).power.mode = .run ∧
      (roled 20 .parkBrake 1 run0).speed.estimate = 0 ∧ (roled 20 .parkBrake 1 run0).speed.settled = true ∧
      ((roled 20 .parkBrake 1 run0).role .parkBrake).value = 1 ∧ (roled 20 .parkBrake 1 run0).svc.isOpen = false) ∧
    (run0.role .parkBrake).value = 0 ∧ (Admits .service serv0 ∧ serv0.svc.isOpen = true ∧ ModeSettled serv0 ∧
      serv0.svc.silence.isSome = true) :=
  ⟨⟨admits_of (by decide), by decide⟩, by decide, run0_admits.2.2, by decide, serv0_settled, by decide⟩

theorem wit_ForcesAndOverridesStand :
    (Admits .service eight ∧ eight.svc.isOpen = true ∧ ModeSettled eight ∧ eight.holder .parkBrake = some 20 ∧ 8 ≤ eight.svc.forces.length ∧
      (∃ f ∈ eight.svc.forces, f.1 = 38) ∧ (∀ f ∈ eight.svc.forces, f.1 ≠ 6)) ∧
    (Admits .service serv0 ∧ ModeSettled serv0 ∧ serv0.svc.forces.length < 8 ∧ serv0.svc.overrides.length < 8) ∧
    (OutputId.ofCode (18#8).toNat = some .chime ∧ OutputId.ofCode (19#8).toNat = none ∧ OutputId.ofCode (17#8).toNat = some .di ∧
      Setting.ofCode (2#8).toNat = some .flash ∧ 2 < (3#8).toNat ∧ 25000 < (25001#16).toNat) :=
  ⟨⟨admits_of (by decide), by decide, settled_run (by decide), by decide⟩, ⟨run0_admits.2.2, serv0_settled, by decide⟩, by decide⟩

def allInUse : State := serv0.modWarn (fun m => { m with defs := Vector.replicate 56 coolant })
theorem wit_SettingsAndTestsAreTaken :
    (Admits .service sweeping ∧ sweeping.svc.isOpen = true ∧ ModeSettled sweeping ∧ sweeping.svc.sweepRunning = false ∧
      (∀ g : Fin 6, (3#8).getLsbD g.val = true → (sweeping.gauges.gauge[g]).active.isSome = true ∧ (sweeping.gauges.gauge[g]).state = .tracking) ∧
      (∀ g : Fin 6, (4#8).getLsbD g.val = true → (sweeping.gauges.gauge[g]).state ≠ .tracking ∧ (sweeping.gauges.gauge[g]).state ≠ .held) ∧
      64 ≤ (64#8).toNat ∧ (63#8).toNat < 64 ∧ (∀ g : Fin 6, (4#8).getLsbD g.val = true ↔ (5#8).getLsbD g.val = true ∧
        (sweeping.gauges.gauge[g]).state ≠ .tracking ∧ (sweeping.gauges.gauge[g]).state ≠ .held)) ∧
    (let s := { serv0 with svc := { serv0.svc with sweepRunning := true } }
     Admits .service s ∧ s.svc.isOpen = true ∧ s.svc.sweepRunning = true) ∧
    (Admits .service serv0 ∧ (∀ i : Fin 8, ((Vector.replicate 8 3#8)[i]).toNat = (Vector.replicate 8 WarnClass.silent)[i].code) ∧
      (List.finRange 56).countP (fun w => serv0.warn.defs[w].inUse && decide ((Vector.replicate 8 WarnClass.stop)[serv0.warn.defs[w].severity] = .stop)) ≤ 16) ∧
    (16 < (List.finRange 56).countP (fun w => (allInUse.warn.defs[w]).inUse && decide ((Vector.replicate 8 WarnClass.stop)[(allInUse.warn.defs[w]).severity] = .stop))) ∧
    ((0x80#8).getLsbD 7 = true ∧ (99#16).toNat < 100 ∧ 100 ≤ (100#16).toNat ∧ (5000#16).toNat ≤ 5000 ∧ 5000 < (5001#16).toNat ∧
      (29#8).toNat ≤ 29 ∧ 29 < (30#8).toNat ∧ (0x7F#8).getLsbD 7 = false) :=
  ⟨⟨admits_of (by decide), by decide, settled_run (by decide), by decide⟩, ⟨admits_of (by decide), by decide⟩,
    ⟨run0_admits.2.2, by decide⟩, by decide, by decide⟩

end Sys2Proof.Tests
end

section
/-!
SUPPORT. What leaves the Speed Unit's own items alone: every operation behind the unit's own, one lemma per operation.
-/

namespace Sys2Proof.Machine.RoadSpeed

/-- The Speed Unit less the writer's marks (R40, R41), which the store arbiter and an entry to PARKING move. -/
def unmarked (u : SpeedUnit) : SpeedUnit := { u with scheduled := .none, parking := .none, parkingAgain := false }

/-- Two states whose Speed Units differ in the writer's marks alone. -/
structure SameRoad (s t : State) : Prop where
  speed : unmarked t.speed = unmarked s.speed

theorem SameRoad.refl (s : State) : SameRoad s s := ⟨rfl⟩

theorem SameRoad.trans {s t u : State} (h : SameRoad s t) (k : SameRoad t u) : SameRoad s u := ⟨k.speed.trans h.speed⟩

theorem SameRoad.of_eq {s t : State} (h : t.speed = s.speed) : SameRoad s t := ⟨congrArg unmarked h⟩

theorem SameRoad.of_filed {s t : State} (h : Filed s t) : SameRoad s t := ⟨congrArg State.speed h.rest⟩

theorem SameRoad.foldl {α : Type} {f : State → α → State} (hf : ∀ s a, SameRoad s (f s a)) :
    (as : List α) → (s : State) → SameRoad s (as.foldl f s)
  | [], s => .refl s
  | a :: as, s => (hf s a).trans (SameRoad.foldl hf as (f s a))

theorem SameRoad.moving {s t : State} (h : SameRoad s t) : t.speed.moving = s.speed.moving :=
  congrArg SpeedUnit.moving (a₁ := unmarked t.speed) (a₂ := unmarked s.speed) h.speed

theorem SameRoad.estimate {s t : State} (h : SameRoad s t) : t.speed.estimate = s.speed.estimate :=
  congrArg SpeedUnit.estimate (a₁ := unmarked t.speed) (a₂ := unmarked s.speed) h.speed

theorem modChime_road (f : Chime → Chime) (s : State) : SameRoad s (s.modChime f) := .of_eq rfl
theorem modLamp_road (l : Fin 16) (f : Lamp → Lamp) (s : State) : SameRoad s (s.modLamp l f) := .of_eq rfl
theorem modGauge_road (g : Fin 6) (f : Gauge → Gauge) (s : State) : SameRoad s (s.modGauge g f) := .of_eq rfl
theorem modGauges_road (f : Gauge → Gauge) (s : State) : SameRoad s (s.modGauges f) := .of_eq rfl
theorem modPower_road (f : PowerController → PowerController) (s : State) : SameRoad s (s.modPower f) := .of_eq rfl
theorem raiseTopic_road (t : Topic) (s : State) : SameRoad s (raiseTopic t s) := .of_eq rfl
theorem withDoors_road (m : DoorwayMonitor) (s : State) : SameRoad s { s with doors := m } := .of_eq rfl

/-! Outputs and doorways. -/

theorem chimeDecide_road (s : State) : SameRoad s (chimeDecide s) := by
  unfold chimeDecide
  split <;> exact .of_eq rfl

theorem setDoorStanding_road (on : Bool) (s : State) : SameRoad s (setDoorStanding on s) := by
  unfold setDoorStanding
  split
  · exact .refl s
  · exact (modChime_road _ s).trans (chimeDecide_road _)

theorem chimeOverrideChange_road (before : Option Setting) (s : State) : SameRoad s (chimeOverrideChange before s) := by
  unfold chimeOverrideChange
  split
  · exact .refl s
  · exact chimeDecide_road s
  · exact .of_eq rfl

theorem contradictionNotice_road (s0 s : State) (d : Fin 4) : SameRoad s (contradictionNotice s0 s d) := by
  unfold contradictionNotice
  dsimp only
  split
  · exact .of_filed (faultPresent_filed _ _ s)
  · split
    · exact .of_filed (faultCleared_filed _ s)
    · exact .refl s

theorem outputEval_road (s : State) : SameRoad s (outputEval s) := by
  unfold outputEval
  exact .of_eq rfl

theorem doorDeliveries_road (s0 s : State) : SameRoad s (doorDeliveries s0 s) := by
  unfold doorDeliveries
  dsimp only
  have notices := (outputEval_road s).trans ((setDoorStanding_road s.anyFlashing _).trans
    (SameRoad.foldl (contradictionNotice_road s0) (indices 4) _))
  split
  · exact notices
  · exact notices.trans (raiseTopic_road _ _)

theorem doorEvalFrom_road (s0 s : State) : SameRoad s (doorEvalFrom s0 s) := by
  unfold doorEvalFrom
  exact (withDoors_road _ s).trans (doorDeliveries_road s0 _)

theorem restoreLamp_road (s : State) (l : Fin 16) : SameRoad s (restoreLamp s l) := by
  unfold restoreLamp
  split
  · exact .refl s
  · exact (modLamp_road _ _ s).trans (.of_filed (faultCleared_filed _ _))

theorem tripLamp_road (l : Fin 16) (s : State) : SameRoad s (tripLamp l s) := by
  unfold tripLamp
  dsimp only
  split
  · exact (modLamp_road _ _ s).trans (.of_filed (faultPresent_filed _ _ _))
  · exact modLamp_road _ _ s

theorem configureLamp_road (c : BlockConfig) (s : State) (l : Fin 16) : SameRoad s (configureLamp c s l) := by
  unfold configureLamp
  dsimp only
  refine (modLamp_road l (Lamp.configure c l) s).trans ?_
  split
  · split
    · exact modLamp_road _ _ _
    · exact tripLamp_road l _
  · exact .refl _

/-! Gauges. -/

theorem sweepEnd_road (g : Fin 6) (how : SweepRecord) (s : State) : SameRoad s (sweepEnd g how s) := by
  unfold sweepEnd
  split
  · exact .of_eq rfl
  · exact .refl s

theorem deliverAbort_road (g : Fin 6) (before after : Gauge) (s : State) : SameRoad s (deliverAbort g before after s) := by
  unfold deliverAbort
  split
  · exact sweepEnd_road _ _ s
  · exact .refl s

theorem closeSweep_road (s : State) (g : Fin 6) : SameRoad s (closeSweep s g) := by
  unfold closeSweep
  split
  · exact (modGauge_road _ _ s).trans (deliverAbort_road _ _ _ _)
  · exact .refl s

theorem gaugeStep_road (s : State) (g : Fin 6) : SameRoad s (gaugeStep s g) := by
  unfold gaugeStep
  dsimp only
  have aborted := fun (f : Gauge → Gauge) (a b : Gauge) =>
    (modGauge_road g f s).trans (deliverAbort_road g a b _)
  split
  · split
    · exact (aborted _ _ _).trans ((sweepEnd_road _ _ _).trans (raiseTopic_road _ _))
    · exact (aborted _ _ _).trans (raiseTopic_road _ _)
  · split
    · exact (aborted _ _ _).trans (sweepEnd_road _ _ _)
    · exact aborted _ _ _

theorem gaugeFrames_road (s : State) : SameRoad s (gaugeFrames s) := by
  unfold gaugeFrames
  split
  · exact .refl s
  · exact (modGauges_road _ s).trans (SameRoad.foldl gaugeStep_road _ _)

theorem gaugesPark_road (s : State) : SameRoad s (gaugesPark s) := by
  unfold gaugesPark
  exact (modGauges_road _ s).trans (SameRoad.foldl (fun _ _ => deliverAbort_road _ _ _ _) _ _)

theorem gaugesKeyReturn_road (s : State) : SameRoad s (gaugesKeyReturn s) := by
  unfold gaugesKeyReturn
  split
  · exact .of_eq rfl
  · exact .refl s

/-! The close of service mode. -/

theorem endMask_road (s : State) (d : Fin 4) : SameRoad s (endMask s d) := .of_eq rfl

theorem applyLists_road (s0 s : State) : SameRoad s (applyLists s0 s) := by
  unfold applyLists
  exact (SameRoad.foldl endMask_road _ s).trans
    ((doorEvalFrom_road s0 _).trans (chimeOverrideChange_road _ _))

theorem answerHeld_road (l : LinkId) (st : Status) (fields : List Byte) (r : Bool) (s : State) :
    SameRoad s (answerHeld l st fields r s) := by
  unfold answerHeld
  split
  · exact .of_eq rfl
  · exact .refl s

theorem droppedAccess_road (p : Purpose) (s : State) : SameRoad s (droppedAccess p s) := by
  unfold droppedAccess
  split <;> exact .of_eq rfl

theorem dropServiceAccess_road (s : State) : SameRoad s (dropServiceAccess s) := by
  unfold dropServiceAccess
  split
  · split
    · refine SameRoad.trans ?_ ((droppedAccess_road _ _).trans (answerHeld_road _ _ _ _ _))
      exact .of_eq rfl
    · exact .refl s
  · exact .refl s

theorem closeService_road (cause : CloseCause) (s : State) : SameRoad s (closeService cause s) := by
  unfold closeService
  split
  · refine SameRoad.trans ?_ ((applyLists_road s _).trans ((SameRoad.foldl closeSweep_road _ _).trans
      ((dropServiceAccess_road _).trans (raiseTopic_road _ _))))
    exact .of_eq rfl
  · exact .refl s

theorem speedClose_road (s : State) : SameRoad s (speedClose s) := by
  unfold speedClose
  split
  · exact closeService_road _ s
  · exact .refl s

theorem parkBrakeNotice_road (s : State) : SameRoad s (parkBrakeNotice s) := by
  unfold parkBrakeNotice
  dsimp only
  refine SameRoad.trans (t := { s with power := { s.power with parkBrake := (s.role .parkBrake).value } }) (.of_eq rfl) ?_
  split
  · exact closeService_road _ _
  · exact .refl _

/-! Mode evaluations. -/

theorem requestParkingWrite_road (s : State) : SameRoad s (requestParkingWrite s) := by
  unfold requestParkingWrite
  split
  · exact .refl s
  · exact ⟨rfl⟩
  · split
    · exact (SameRoad.of_filed (withdrawScheduled_filed s)).trans ⟨rfl⟩
    · exact ⟨rfl⟩

theorem requestFaultFlush_road (s : State) : SameRoad s (requestFaultFlush s) := by
  unfold requestFaultFlush
  split
  · exact .refl s
  · exact .of_eq rfl
  · split <;> exact .of_eq rfl

theorem dropPending_road (s : State) : SameRoad s (dropPending s) := by
  unfold dropPending
  exact ⟨rfl⟩

theorem gaugesWatch_road (s : State) : SameRoad s (gaugesWatch s) := .of_eq rfl

theorem enterWatch_road (s : State) : SameRoad s (enterWatch s) := by
  unfold enterWatch
  refine (gaugesWatch_road s).trans ((dropPending_road (gaugesWatch s)).trans ?_)
  exact .of_eq rfl

theorem watchWhenReady_road (s : State) : SameRoad s (watchWhenReady s) := by
  unfold watchWhenReady
  split
  · exact enterWatch_road s
  · exact .refl s

theorem enterParking_road (s : State) : SameRoad s (enterParking s) := by
  unfold enterParking
  exact (modPower_road _ s).trans ((gaugesPark_road _).trans ((requestParkingWrite_road _).trans
    ((requestFaultFlush_road _).trans ((SameRoad.of_filed (storePump_filed _ _)).trans
      ((closeService_road _ _).trans (watchWhenReady_road _))))))

theorem gaugesCrankStart_road (s : State) : SameRoad s (gaugesCrankStart s) := .of_eq rfl

theorem enterCrank_road (s : State) : SameRoad s (enterCrank s) := by
  unfold enterCrank
  refine SameRoad.trans ?_ ((doorEvalFrom_road s _).trans (gaugesCrankStart_road _))
  exact .of_eq rfl

theorem crankAtOnce_road (s : State) : SameRoad s (crankAtOnce s) := by
  unfold crankAtOnce
  split
  · exact enterCrank_road s
  · exact .refl s

theorem restoreLamps_road (s : State) : SameRoad s (restoreLamps s) := by
  unfold restoreLamps
  exact (SameRoad.foldl restoreLamp_road _ s).trans (outputEval_road _)

theorem enterRunStart_road (s : State) : SameRoad s (enterRunStart s) := by
  unfold enterRunStart
  exact (modPower_road _ s).trans ((restoreLamps_road _).trans (.of_filed (ageFaults_filed _)))

theorem runRows_road (s : State) : SameRoad s (runRows s) := by
  unfold runRows
  split
  · exact enterCrank_road s
  · split
    · exact modPower_road _ s
    · split <;> exact modPower_road _ s

theorem keyReturn_road (m : PowerMode) (s : State) : SameRoad s (keyReturn m s) := by
  unfold keyReturn
  exact (modPower_road _ s).trans (gaugesKeyReturn_road _)

/-- R203: no change of mode moves the Speed Unit's own items. -/
theorem modeEval_road (s : State) : SameRoad s (modeEval s) := by
  unfold modeEval
  split
  · split
    · exact .refl s
    · split
      · exact (enterRunStart_road s).trans (crankAtOnce_road _)
      · split
        · exact modPower_road _ s
        · exact enterParking_road s
  · split
    · exact enterRunStart_road s
    · split <;> exact modPower_road _ s
  · exact runRows_road s
  · split
    · refine SameRoad.trans ?_ (runRows_road _)
      exact .of_eq rfl
    · exact .refl s
  · split
    · exact (keyReturn_road _ s).trans (crankAtOnce_road _)
    · split
      · exact keyReturn_road _ s
      · exact watchWhenReady_road s
  · exact .refl s

theorem settleMode_road (fuel : Nat) (before : Bool × Bool × Bool × Bool) (s : State) :
    SameRoad s (settleMode fuel before s) := by
  induction fuel generalizing before s with
  | zero => exact .refl s
  | succ fuel ih =>
    unfold settleMode
    split
    · exact .refl s
    · exact (modeEval_road s).trans (ih _ _)

/-- The end of a command leaves the Speed Unit's own items as the command's effect left them. -/
theorem finish_road (s0 s : State) : SameRoad s (finish s0 s) := by
  have ended : (finish s0 s).offLinks = (settleMode modeRounds s0.parkConditions s).offLinks := by simp [finish]
  refine (settleMode_road modeRounds s0.parkConditions s).trans (.of_eq ?_)
  rw [← State.offLinks_speed, ended, State.offLinks_speed]

theorem whenAwake_road {f : State → State} {s : State} (h : s.awake = true) : SameRoad (f s) (whenAwake f s) := by
  unfold whenAwake
  rw [if_pos h]
  exact finish_road s _

end Sys2Proof.Machine.RoadSpeed
end

section
/-!
SUPPORT. Commands and requests: a guarded event at its last count, an event that moves no parking condition, and what the answer of
a request's owner comes to (R213).
-/

namespace Sys2Proof.Machine.RoadSpeed

theorem whenWatching_watch {f : State → State} {s : State} (hp : s.powered = true) (hm : s.power.mode = .watch) :
    whenWatching f s = f s := by
  simp [whenWatching, hp, hm]

theorem guarded_pos {g : State → Bool} {f : State → State} {s : State} (h : g s = true) : guarded g f s = f s := if_pos h

/-- A command that completes in one state only completes in it. -/
theorem next_inj {u t : State} (h : (Host.Outcome.next u : Result) = .next t) : t = u := by cases h; rfl

theorem parkConditions_congr {s t : State} (hg : t.gauges = s.gauges) (hp : t.power = s.power)
    (hd : t.flushDone = s.flushDone) (hf : t.store.inFlight = s.store.inFlight) : t.parkConditions = s.parkConditions := by
  simp only [State.parkConditions, State.pointersReleased, State.gaugesAtRest, State.accessInFlight, hg, hp, hd, hf]

@[simp] theorem heard_speed (s : State) (l : LinkId) : (s.heard l).speed = s.speed := by
  unfold State.heard resetSilence
  split <;> rfl

@[simp] theorem heard_fault (s : State) (l : LinkId) : (s.heard l).fault = s.fault := by
  unfold State.heard resetSilence
  split <;> rfl

@[simp] theorem heard_power (s : State) (l : LinkId) : (s.heard l).power = s.power := by
  unfold State.heard resetSilence
  split <;> rfl

theorem heard_settled {s : State} (l : LinkId) (h : ModeSettled s) : ModeSettled (s.heard l) :=
  h.congr (heard_power s l) (by rw [heard_store])

/-- An owner that answers at once, with the links as the accepted frame left them and no parking condition changed. -/
theorem request_answered {c : Instr} {l : LinkId} {code tag : Byte} {owner : State → Served} {s v : State} {st : Status}
    {fields : List Byte} (hx : exec c s = .next (finish s (placeAnswer l code tag (owner (s.heard l)))))
    (hv : owner (s.heard l) = answerNow st fields v) (hl : v.links = (s.heard l).links)
    (hp : v.parkConditions = s.parkConditions) : RepliesWith c l code tag st fields s v := by
  have same : ∀ k, v.link k = (s.heard l).link k := fun k => by rw [State.link, hl, State.link]
  refine request_now hx hv (.inl hp) ?_ ?_ fun k => ?_
  · rw [← heard_outgoing s l l, State.outgoing, State.outgoing, same]
  · simpa only [Accepted, same] using heard_accepted s l
  · rw [same, heard_settings]

/-- R213: an admitted request that is refused at its owner or ahead of it changes nothing but the links. -/
theorem request_refused {c : Instr} {l : LinkId} {code tag : Byte} {owner : State → Served} {s : State} {st : Status}
    (hx : exec c s = .next (finish s (placeAnswer l code tag (owner (s.heard l)))))
    (hv : owner (s.heard l) = refuse st (s.heard l)) : RepliesWith c l code tag st [] s (s.heard l) :=
  request_answered hx hv rfl (heard_parkConditions s l)

/-- R213 test 4: an admitted request on a link that the catalogue does not allow is LOCKED. -/
theorem onRequest_locked {l : LinkId} {code tag : Byte} {owner : State → Served} {s : State} {p : Permit} (h : Admits l s)
    (hc : catalogue code.toNat = some p) (hl : p.allows l = false) :
    onRequest l code tag owner s = finish s (placeAnswer l code tag (refuse .locked (s.heard l))) := by
  obtain ⟨powered, running⟩ := h.awake
  obtain ⟨_, loaded, free, room⟩ := h
  unfold onRequest onFrame
  rw [if_pos powered, if_neg running]
  change finish s (takeRequest l code tag (some owner) (s.heard l)) = _
  have noneInFlight : ((s.heard l).link l).inFlight.isSome = false := by simp [free]
  have place : ¬ ((s.heard l).link l).replies.length ≥ replyPlaces := by simpa using room
  have preloaded : ¬ ((s.heard l).store.cfgState = .preloading ∧ code ≠ 0x20#8) := by simp [loaded]
  simp only [takeRequest, noneInFlight, Bool.false_eq_true, if_false, if_neg place, if_neg preloaded, serveRequest, hc, hl,
    Bool.not_false, if_true]

/-- What is said of a reply's part speaks of it apart from its links alone. -/
theorem repliesWith_congr {c : Instr} {l : LinkId} {code tag : Byte} {st : Status} {fields : List Byte} {s u v : State}
    (h : RepliesWith c l code tag st fields s v) (e : v.offLinks = u.offLinks) :
    RepliesWith c l code tag st fields s u := by
  obtain ⟨t, hx, placed, accepted, left⟩ := h
  exact ⟨t, hx, placed, accepted, left.trans e⟩

/-- An owner that holds its reply, with the links as the accepted frame left them and the mode settled. -/
theorem request_held {c : Instr} {l : LinkId} {code tag : Byte} {owner : State → Served} {s v : State}
    (hx : exec c s = .next (finish s (placeAnswer l code tag (owner (s.heard l)))))
    (hv : owner (s.heard l) = { state := v, answer := .held }) (hl : v.links = (s.heard l).links) (hm : ModeSettled v) :
    Holds c l code tag s v := by
  rw [hv] at hx
  let u := v.modLink l (fun r => { r with inFlight := some (code, tag) })
  have ended : Ends u (finish s u) := finish_settled s (hm.congr rfl rfl)
  have same : ∀ k, v.link k = (s.heard l).link k := fun k => by rw [State.link, hl, State.link]
  refine ⟨_, hx, ?_, ⟨?_, fun k hk => ?_⟩, ended.offLinks⟩
  · exact (ended.inFlight l).trans (by simp [u])
  · exact (ended.rx l).trans (by simp [u, same])
  · exact (ended.rx k).trans (by simp [u, State.modLink_other _ _ hk, same, hk])

end Sys2Proof.Machine.RoadSpeed
end

section
/-!
SUPPORT. The arbiter with an idle store (R186), and what it leaves of the fault records.
-/

namespace Sys2Proof.Machine.RoadSpeed

/-- With both parts of the flush over, the parking flush has nothing to hand. -/
theorem parkPump_over {s : State} (h : s.flushDone = true) : parkPump s = s := by
  obtain ⟨odo, faults⟩ := Bool.and_eq_true_iff.1 h
  have odoIdle : s.speed.parking ≠ .waiting := fun e => by simp [e, FlushPart.over] at odo
  have faultsIdle : s.fault.part ≠ .waiting ∧ s.fault.part ≠ .inFlight :=
    ⟨fun e => by simp [e, FlushPart.over] at faults, fun e => by simp [e, FlushPart.over] at faults⟩
  have unbegun : beginFaultPart s = s := if_neg (fun e => faultsIdle.1 e.1)
  unfold parkPump
  simp [unbegun, odoIdle, faultsIdle]

theorem recordPump_empty {s : State} (h : s.fault.items = []) : recordPump s = s := by
  unfold recordPump
  rw [h]
  split
  · next e => cases e
  · rfl

theorem flushEnds_done {s0 : State} (s : State) (h : s0.flushDone = true) : s0.flushEnds s = false := by
  simp [State.flushEnds, h]

theorem storePump_busy (fuel : Nat) {s : State} (hd : s.flushDone = true) (hr : recordPump s = s)
    (hf : s.store.inFlight.isSome = true) : storePump fuel s = s := by
  cases fuel with
  | zero => rfl
  | succ fuel => simp [storePump, parkPump_over hd, hr, hf]

/-- R186: an idle store starts the one access that its requesters hand, and the arbiter rests. -/
theorem storePump_starts (fuel : Nat) {s r t : State} {p : Purpose} (hd : s.flushDone = true) (hr : recordPump s = r)
    (hi : r.store.inFlight = none) (hw : r.store.waiting.takeFirst = some (p, PendingAccesses.init))
    (ht : startAccess p { r with store := { r.store with waiting := PendingAccesses.init } } = t)
    (td : t.flushDone = true) (tr : recordPump t = t) (tf : t.store.inFlight.isSome = true) :
    storePump (fuel + 1) s = t := by
  have calm : s.flushEnds r = false := flushEnds_done r hd
  have rd : r.flushDone = true := by
    rw [← hr, ← hd]
    unfold recordPump
    split <;> rfl
  have going : r.flushEnds t = false := flushEnds_done t rd
  unfold storePump
  dsimp only
  rw [parkPump_over hd, hr, if_neg (by simp [hi, calm]), hw]
  dsimp only
  rw [ht, if_neg (by simp [going]), storePump_busy fuel td tr tf]

theorem storeIdle_flushDone {s : State} (h : StoreIdle s) : s.flushDone = true := by
  obtain ⟨_, _, _, odo, faults⟩ := h
  simp [State.flushDone, odo, faults]

/-- R186: an access that a link hands to an idle store starts at once. -/
theorem handLinkAccess_starts (l : LinkId) {p : Purpose} {s : State} {a : Access} (h : StoreIdle s)
    (hp : startAccess p s = fly a s) : handLinkAccess l p s = fly a s := by
  have hd := storeIdle_flushDone h
  obtain ⟨idle, waiting, items, _, _⟩ := h
  have taken : { s with store := { s.store with waiting := PendingAccesses.init } } = s := by rw [← waiting]
  have emptied : recordPump (fly a s) = fly a s := recordPump_empty items
  unfold handLinkAccess pumpRounds
  cases l
  all_goals
    refine storePump_starts 7 (p := p) hd (recordPump_empty items) idle ?_ ?_ hd emptied rfl
    · simp only [waiting]
      rfl
    · exact (congrArg (startAccess p) taken).trans hp

/-- R36, R40: the record writer's odometer item, queued at an idle store, starts as the write of the next slot. -/
theorem addOdo_starts {s : State} (h : StoreIdle s) :
    storePump pumpRounds (addItem .odo s) =
      fly (odoAccess (.record .odo) s) { s with speed := { s.speed with scheduled := .inFlight } } := by
  have hd := storeIdle_flushDone h
  obtain ⟨idle, waiting, items, _, _⟩ := h
  have queued : addItem .odo s = { s with fault := { s.fault with items := [.odo] } } := by
    simp [addItem, items]
  have handed : recordPump { s with fault := { s.fault with items := [.odo] } } =
      { s with store := { s.store with waiting := { PendingAccesses.init with record := some (.record .odo) } } } := by
    simp only [recordPump, waiting]
    rw [← items]
    rfl
  rw [queued]
  unfold pumpRounds
  refine storePump_starts 7 (p := .record .odo) hd handed idle rfl ?_ hd (recordPump_empty items) rfl
  rw [← waiting]
  rfl

theorem endPart_record (m : FaultMemory) : m.endPart.record = m.record := by
  unfold FaultMemory.endPart
  split <;> rfl

theorem mark_record (m : FaultMemory) (item : WriterItem) (b : Bool) : (m.mark item b).record = m.record := by
  cases item <;> rfl

theorem addItem_record (item : WriterItem) (s : State) : (addItem item s).fault.record = s.fault.record := by
  unfold addItem
  split <;> rfl

theorem recordPump_record (s : State) : (recordPump s).fault.record = s.fault.record := by
  unfold recordPump
  split <;> rfl

theorem beginFaultPart_record (s : State) : (beginFaultPart s).fault.record = s.fault.record := by
  unfold beginFaultPart
  split
  · split
    · exact endPart_record _
    · rfl
  · rfl

theorem parkPump_record (s : State) : (parkPump s).fault.record = s.fault.record := by
  unfold parkPump
  dsimp only
  rw [← beginFaultPart_record s]
  generalize beginFaultPart s = t
  split
  · rfl
  · split
    · rfl
    · split
      · split <;> rfl
      · rfl

theorem startAccess_record (p : Purpose) (s : State) : (startAccess p s).fault.record = s.fault.record := by
  cases p with
  | parkOdo =>
    simp only [startAccess]
    split <;> rfl
  | parkItem item => exact mark_record _ _ _
  | record item =>
    cases item with
    | odo => rfl
    | header => rfl
    | position q => rfl
  | preOdo | preFaults | preConfig | linkRead | linkWrite | odoSet | faultClear | release => rfl

/-- R157: the arbiter writes records to the store, and changes none. -/
theorem storePump_record (fuel : Nat) (s : State) : (storePump fuel s).fault.record = s.fault.record := by
  induction fuel generalizing s with
  | zero => rfl
  | succ fuel ih =>
    unfold storePump
    dsimp only
    have handed : (recordPump (parkPump s)).fault.record = s.fault.record :=
      (recordPump_record _).trans (parkPump_record s)
    split
    · exact handed
    · split
      · exact handed
      · next p rest _ =>
        have started := (startAccess_record p { recordPump (parkPump s) with store :=
          { (recordPump (parkPump s)).store with waiting := rest } }).trans handed
        split
        · exact started
        · exact (ih _).trans started

theorem heard_storeIdle {s : State} (l : LinkId) (h : StoreIdle s) : StoreIdle (s.heard l) := by
  simpa only [StoreIdle, heard_store, heard_fault, heard_speed] using h

/-- R186: a request that hands the idle store an access holds its reply while the access is in flight. -/
theorem request_flies {c : Instr} {l : LinkId} {code tag : Byte} {owner : State → Served} {s v : State} {p : Purpose}
    {a : Access} (hx : exec c s = .next (finish s (placeAnswer l code tag (owner (s.heard l)))))
    (hv : owner (s.heard l) = { state := handLinkAccess l p v, answer := .held }) (hi : StoreIdle v)
    (hp : startAccess p v = fly a v) (hl : v.links = (s.heard l).links) (hm : ModeSettled v) :
    Holds c l code tag s (fly a v) :=
  request_held hx (by rw [hv, handLinkAccess_starts l hi hp]) hl (hm.congr rfl rfl)

end Sys2Proof.Machine.RoadSpeed
end

section
/-!
SUPPORT. Edge capture (R27, R28).
-/

namespace Sys2Proof.Machine.RoadSpeed

/-- R27: a sample at which the filter's output does not rise moves the filter alone. -/
theorem edgeSample_flat {p : PulseId} {level : Bool} {s : State} (now : Word)
    (h : (filterStep (s.edgeThreshold p) level (s.speed.capture p).count (s.speed.capture p).out).2 = true →
      (s.speed.capture p).out = true) :
    edgeSample p level now s =
      { s with speed := s.speed.setCapture p ((s.speed.capture p).sample (s.edgeThreshold p) level) } := by
  unfold edgeSample
  dsimp only
  rw [if_neg]
  intro rose
  simp only [EdgeCapture.sample, Bool.and_eq_true, Bool.not_eq_true'] at rose
  exact absurd (h rose.1) (by simp [rose.2])

/-- R7: at the last count short of the threshold an active sample raises the output. -/
theorem filterStep_rise {threshold count : Nat} (out : Bool) (h : threshold ≤ count + 1) :
    filterStep threshold true count out = (threshold, true) := by
  simp [filterStep, Nat.min_eq_left h]

/-- R7: an edge filter that an active sample has just raised. -/
def raised (threshold : Nat) (e : EdgeCapture) : EdgeCapture := { e with count := threshold, out := true }

/-- R27: at its last count the filter's output rises, and the edge is taken with the filter at its threshold. -/
theorem edgeSample_rise {p : PulseId} {s : State} (now : Word) (ho : (s.speed.capture p).out = false)
    (hc : s.edgeThreshold p ≤ (s.speed.capture p).count + 1) :
    edgeSample p true now s =
      filteredEdge p now { s with speed := s.speed.setCapture p (raised (s.edgeThreshold p) (s.speed.capture p)) } := by
  unfold edgeSample EdgeCapture.sample
  simp [filterStep_rise _ hc, ho, raised]

/-- R36: an edge below the increment is counted, and nothing else happens. -/
theorem countPulse_below {s : State} (h : ∀ P, s.speed.pulseConst = some P → s.speed.accumulator + 1 < P / 10) :
    countPulse s = { s with speed := { s.speed with accumulator := s.speed.accumulator + 1 } } := by
  unfold countPulse
  dsimp only
  split
  · next P hP => rw [if_neg (Nat.not_le.2 (h P hP))]
  · rfl

/-- FILTERED_EDGE at the last count is the rising sample of its channel. -/
theorem filteredEdge_guard {p : PulseId} {s : State} (now : Word) (ho : (s.speed.capture p).out = false)
    (hc : s.edgeThreshold p ≤ (s.speed.capture p).count + 1) :
    guarded (fun t => !(t.speed.capture p).out && decide ((t.speed.capture p).count + 1 ≥ t.edgeThreshold p))
      (fun t => edgeSample p true now { t with timebase := now }) s =
    filteredEdge p now { s with
      timebase := now, speed := s.speed.setCapture p (raised (s.edgeThreshold p) (s.speed.capture p)) } := by
  rw [guarded_pos (by simp [ho, hc])]
  exact edgeSample_rise now ho hc

/-- R28: how far the edge count toward the settled state goes. -/
theorem min_two_succ (n : Nat) : min 2 (n + 1) = if n = 0 then 1 else 2 := by
  split <;> omega

/-- Settles O31: a flat sample is the two filters' steps, and a rising one is its channel's filtered edge; none of them
changes a parking condition. -/
theorem edgesFeedTheRings : Obligations.EdgesFeedTheRings := by
  intro now s ha
  refine ⟨fun a b h0 h1 => ?_, fun ho hc => ?_, fun ho hc hP => ?_⟩
  · have flat := (congrArg (edgeSample .pu1 b now)
      (edgeSample_flat (p := .pu0) (s := { s with timebase := now }) now h0)).trans (edgeSample_flat (p := .pu1) now h1)
    refine does_of rfl ha (by rw [flat]; rfl) (fun _ => by rw [flat]; rfl) (.inl ?_)
    rw [flat]
    exact parkConditions_congr rfl rfl rfl rfl
  · have edge := filteredEdge_guard (p := .pu1) now ho hc
    refine does_of rfl ha (by rw [edge]; rfl) (fun _ => by rw [edge]; rfl) (.inl ?_)
    rw [edge]
    exact parkConditions_congr rfl rfl rfl rfl
  · have edge := (filteredEdge_guard (p := .pu0) now ho hc).trans (countPulse_below hP)
    refine does_of rfl ha ?_ (fun _ => by rw [edge]; rfl) (.inl ?_)
    · rw [edge, ← min_two_succ]
      rfl
    · rw [edge]
      exact parkConditions_congr rfl rfl rfl rfl

end Sys2Proof.Machine.RoadSpeed
end

section
/-!
SUPPORT. The increment of the meters and its scheduled write (R36, R37, R40).
-/

namespace Sys2Proof.Machine.RoadSpeed

/-- R36, R37: the meters after 0.1 km. -/
def counted (s : State) : State :=
  { s with speed :=
    { s.speed with
      tripA := if s.speed.tripA < 99999 then s.speed.tripA + 1 else 0
      tripB := if s.speed.tripB < 99999 then s.speed.tripB + 1 else 0
      working := if s.speed.loaded = true ∧ s.speed.working < 99999999 then s.speed.working + 1 else s.speed.working } }

theorem tripNext_eq (t : Nat) : tripNext t = if t < 99999 then t + 1 else 0 := by
  unfold tripNext
  split <;> split <;> omega

theorem increment_eq (s : State) :
    increment s = if s.speed.loaded = true ∧ s.speed.working < 99999999 then scheduleWrite (counted s) else counted s := by
  unfold increment counted
  simp only [← tripNext_eq]
  split <;> rfl

/-- R36: the pulse that brings the increment. -/
theorem countPulse_increment {s : State} {P : Nat} (hP : s.speed.pulseConst = some P) (h : P / 10 ≤ s.speed.accumulator + 1) :
    countPulse s = increment { s with speed := { s.speed with accumulator := s.speed.accumulator + 1 - P / 10 } } := by
  unfold countPulse
  simp only [hP]
  exact if_pos h

theorem scheduleWrite_later {s : State} (h : s.speed.working < s.speed.stored + 10 ∨ s.speed.scheduled ≠ .none) :
    scheduleWrite s = s := by
  refine if_neg (fun due => ?_)
  rcases h with h | h
  · omega
  · exact h due.2

/-- R37, R40, R186: a write that is due starts at once where the store is idle. -/
theorem scheduleWrite_starts {s : State} (due : s.speed.stored + 10 ≤ s.speed.working) (hn : s.speed.scheduled = .none)
    (idle : StoreIdle s) : scheduleWrite s =
      fly (odoAccess (.record .odo) s) { s with speed := { s.speed with scheduled := .inFlight } } := by
  unfold scheduleWrite
  rw [if_pos ⟨due, hn⟩]
  exact addOdo_starts (s := { s with speed := { s.speed with scheduled := .waiting } }) idle

theorem scheduleWrite_filed (s : State) : Filed s (scheduleWrite s) := by
  unfold scheduleWrite
  split
  · refine Filed.trans ?_ ((addItem_filed _ _).trans (storePump_filed _ _))
    exact ⟨rfl, fun _ => rfl⟩
  · exact .refl s

theorem scheduleWrite_beside (s : State) : Beside s (scheduleWrite s) := by
  unfold scheduleWrite
  split
  · refine Beside.trans ?_ ((addItem_beside _ _).trans (storePump_beside _ _))
    exact ⟨rfl, rfl, rfl, rfl, rfl, rfl, rfl, rfl⟩
  · exact .refl s

theorem scheduleWrite_record (s : State) : (scheduleWrite s).fault.record = s.fault.record := by
  unfold scheduleWrite
  split
  · rw [storePump_record, addItem_record]
  · rfl

theorem increment_filed (s : State) : Filed (counted s) (increment s) := by
  rw [increment_eq]
  split
  · exact scheduleWrite_filed _
  · exact .refl _

theorem increment_beside (s : State) : Beside (counted s) (increment s) := by
  rw [increment_eq]
  split
  · exact scheduleWrite_beside _
  · exact .refl _

theorem increment_record (s : State) : (increment s).fault.record = s.fault.record := by
  rw [increment_eq]
  split
  · exact scheduleWrite_record _
  · rfl

/-- R37: with no write due the meters move alone. -/
theorem increment_later {s : State} (h : s.speed.loaded = false ∨ s.speed.working + 1 < s.speed.stored + 10 ∨
    s.speed.scheduled ≠ .none) : increment s = counted s := by
  rw [increment_eq]
  split
  · next loaded =>
    refine scheduleWrite_later ?_
    simp only [counted, if_pos loaded]
    simpa [loaded.1] using h
  · rfl

/-- R37, R40: the increment that makes the write due, at an idle store. -/
theorem increment_starts {s : State} (hl : s.speed.loaded = true) (hw : s.speed.working < 99999999)
    (due : s.speed.stored + 10 ≤ s.speed.working + 1) (hn : s.speed.scheduled = .none) (idle : StoreIdle s) :
    increment s =
      fly (odoAccess (.record .odo) (counted s)) { counted s with speed := { (counted s).speed with scheduled := .inFlight } } := by
  rw [increment_eq, if_pos ⟨hl, hw⟩]
  refine scheduleWrite_starts ?_ hn idle
  simpa only [counted, hl, hw, and_self, if_true] using due

/-- R36: the accumulator after the edge that brings the increment. -/
def drained (P : Nat) (s : State) : State :=
  { s with speed := { s.speed with accumulator := s.speed.accumulator + 1 - P / 10 } }

/-- ODOMETER_INCREMENT where the accumulator stands one short is the increment. -/
theorem odometerIncrement_guard {P : Nat} {s : State} (hP : s.speed.pulseConst = some P)
    (full : P / 10 ≤ s.speed.accumulator + 1) :
    guarded (fun t => t.speed.pulseConst.any (fun P => decide (t.speed.accumulator + 1 ≥ P / 10))) countPulse s =
      increment (drained P s) := by
  rw [guarded_pos (by simpa [hP] using full), countPulse_increment hP full]
  rfl

theorem offFiling_offLinks (s : State) : s.offLinks.offFiling = s.offFiling := rfl

/-- Settles O32: the command is one increment of the meters, which the arbiter's filing follows where the write is due. -/
theorem odometerCountsTenths : Obligations.OdometerCountsTenths := by
  intro P s ha settled hP full u hu
  obtain rfl : u = counted (drained P s) := hu
  have effect := odometerIncrement_guard hP full
  have filed := increment_filed (drained P s)
  have beside := increment_beside (drained P s)
  obtain ⟨t, hx, traffic, left⟩ := does_of (c := .odometerIncrement) (u := increment (drained P s)) rfl ha (by rw [effect])
    (fun k => by rw [effect]; exact filed.traffic k)
    (.inr (by rw [effect]; exact settled.congr beside.power beside.cfgState))
  refine ⟨t, hx, traffic, ?_, ?_, fun later => ?_, fun hl hw due hn idle => ?_⟩
  · rw [← offFiling_offLinks, left, offFiling_offLinks, filed.rest]
  · rw [← State.offLinks_fault, left, State.offLinks_fault, increment_record]
    rfl
  · rw [left]
    exact congrArg State.offLinks (increment_later (s := drained P s) later)
  · have starts := increment_starts (s := drained P s) hl hw due hn idle
    have working : (counted (drained P s)).speed.working = s.speed.working + 1 := if_pos ⟨hl, hw⟩
    rw [← State.offLinks_speed, ← State.offLinks_store, left, starts]
    refine ⟨rfl, ?_⟩
    rw [State.offLinks_store, fly_inFlight, odoAccess, working]
    rfl

end Sys2Proof.Machine.RoadSpeed
end

section
/-!
SUPPORT. The moving flag (R34), from the gauge frame and after every reset (R209).
-/

namespace Sys2Proof.Machine.RoadSpeed

theorem gaugeFrame_road (now : Word) (s : State) (h : s.awake = true) :
    ∃ t, exec (.gaugeFrame now) s = .next t ∧ SameRoad { s with speed := s.speed.frame now } t := by
  refine ⟨_, rfl, SameRoad.trans ?_ (whenAwake_road h)⟩
  refine SameRoad.trans ?_ ((speedClose_road _).trans (gaugeFrames_road _))
  unfold speedFrame
  dsimp only
  split
  · exact .of_eq rfl
  · refine SameRoad.trans ?_ (doorEvalFrom_road s _)
    exact .of_eq rfl

theorem increment_moving (s : State) : (increment s).speed.moving = s.speed.moving :=
  (SameRoad.of_filed (increment_filed s)).moving

theorem increments_moving (n : Nat) (s : State) : (increments n s).speed.moving = s.speed.moving := by
  induction n generalizing s with
  | zero => rfl
  | succ n ih => exact (ih _).trans (increment_moving s)

theorem configureSpeed_moving (c : BlockConfig) (s : State) : (configureSpeed c s).speed.moving = s.speed.moving :=
  increments_moving _ _

theorem configureBlocks_moving (c : BlockConfig) (s : State) :
    (configureBlocks c s).speed.moving = s.speed.moving := by
  unfold configureBlocks
  dsimp only
  rw [(SameRoad.foldl (configureLamp_road c) _ _).moving]
  exact configureSpeed_moving c _

theorem finishPreload_moving (s : State) (r : PreloadResult) (c : BlockConfig) (staging : Mem) :
    (finishPreload s r c staging).speed.moving = s.speed.moving := by
  unfold finishPreload
  dsimp only
  rw [((doorEvalFrom_road s _).trans ((parkBrakeNotice_road _).trans (modeEval_road _))).moving,
    configureBlocks_moving, raiseTopic_speed]

theorem endPreloadImage_moving (staging : Mem) (s : State) :
    (endPreloadImage staging s).speed.moving = s.speed.moving := by
  unfold endPreloadImage
  dsimp only
  rw [finishPreload_moving]

theorem startPreload_moving (s : State) : (startPreload s).speed.moving = s.speed.moving := by
  unfold startPreload
  split
  · rw [(SameRoad.of_filed (storePump_filed _ _)).moving, endPreloadImage_moving]
  · rw [fly_speed]

/-- R45, R209: the moving flag is clear after a WAKE or a RESTART. -/
theorem warmReset_moving (kind : ResetKind) (wake : WakeCause) (s : State) :
    (warmReset kind wake s).speed.moving = false := by
  unfold warmReset doorEval
  dsimp only
  rw [startPreload_moving, (doorEvalFrom_road _ _).moving]
  rfl

theorem wakeReset_moving {cause : WakeCause} {enabled : WakeEnables → Bool} {s : State}
    (h : s.power.enables.any enabled = true) : (wakeReset cause enabled s).speed.moving = false := by
  unfold wakeReset
  rw [if_pos h]
  exact warmReset_moving _ _ s


theorem restartReset_moving (s : State) : (restartReset s).speed.moving = false := by
  rw [restartReset, warmReset_moving]

/-- R181: the RESTART behind a transmitted reply. -/
theorem frameSent_restarts {l : LinkId} {f : Frame} {s : State} (hf : (s.link l).tx = some f) (hr : f.restarts = true) :
    frameSent l s = restartReset s := by
  simp [frameSent, hf, hr]

theorem powerOnReset_moving (s : State) : (powerOnReset s).speed.moving = false := by
  unfold powerOnReset State.poweredOn
  rfl

/-- R208: KEY_WAKE with the key enabled, at the last count of the line. -/
theorem keyWake_moving (line : WatchLine) {s t : State} (hp : s.powered = true) (hm : s.power.mode = .watch)
    (he : s.power.enables.any (fun e => e.key) = true)
    (hc : match line with
      | .acc => s.power.watchAcc = 4
      | .ign => s.power.watchIgn = 4) (hx : exec (.keyWake line) s = .next t) : t.speed.moving = false := by
  rw [next_inj hx, whenWatching_watch hp hm]
  cases line with
  | acc =>
    dsimp only at hc ⊢
    rw [guarded_pos (by simp [hc])]
    exact wakeReset_moving he
  | ign =>
    dsimp only at hc ⊢
    rw [guarded_pos (by simp [hc])]
    exact wakeReset_moving he

/-- Settles O33: the Speed Unit's frame sets the flag, and nothing behind it in the command moves it; every reset clears
it, and the preload that a reset may end at once leaves it. -/
theorem movingFollowsItsHysteresis : Obligations.MovingFollowsItsHysteresis := by
  refine ⟨fun now s ha => ?_, fun s t hx => ?_, fun s t ha hx => ?_, fun l f s t ha hf hr hx => ?_,
    fun s t hp hm => ⟨fun line he hc hx => ?_, fun d he hc ho hx => ?_, fun l he hx => ?_⟩⟩
  · obtain ⟨t, hx, road⟩ := gaugeFrame_road now s ha
    have flag : t.speed.moving = movingNext s.speed.moving t.speed.estimate := by
      rw [road.moving, road.estimate]
      rfl
    refine ⟨t, hx, fun still fast => ?_, fun still slow => ?_, fun rolling slow => ?_, fun rolling fast => ?_⟩
    · rw [flag, still]
      exact decide_eq_true fast
    · rw [flag, still]
      exact decide_eq_false (Nat.not_lt.2 slow)
    · rw [flag, rolling]
      exact decide_eq_false (Nat.not_lt.2 slow)
    · rw [flag, rolling]
      exact decide_eq_true fast
  · rw [next_inj hx, powerOnReset_moving]
  · rw [next_inj hx, if_pos ha, restartReset_moving]
  · rw [next_inj hx, (whenAwake_road ha).moving, frameSent_restarts hf hr, restartReset_moving]
  · exact keyWake_moving line hp hm he hc hx
  · rw [next_inj hx, whenWatching_watch hp hm, guarded_pos (by simpa using And.intro hc ho)]
    exact wakeReset_moving he
  · rw [next_inj hx, whenWatching_watch hp hm]
    exact wakeReset_moving he

end Sys2Proof.Machine.RoadSpeed
end

section
/-!
SUPPORT. TRIP_CLEAR (R42).
-/

namespace Sys2Proof.Machine.RoadSpeed

theorem tripClear_admitted {tag trip : Byte} {s : State} (h : Admits .display s) :
    exec (.tripClear .display tag trip) s =
      .next (finish s (placeAnswer .display 0x2B#8 tag (serveTripClear trip (s.heard .display)))) :=
  congrArg _ (onRequest_admitted h rfl rfl (fun e => nomatch e))

/-- Settles O53: by the value of the trip byte on the Display Link; the catalogue keeps the Service Link out. -/
theorem tripClearZeroesTheNamedTrip : Obligations.TripClearZeroesTheNamedTrip := by
  intro tag trip s
  refine ⟨fun h e => ?_, fun h e => ?_, fun h e => ?_, fun h => ?_⟩
  · subst e
    exact repliesWith_congr (request_answered (tripClear_admitted h) rfl rfl rfl) rfl
  · subst e
    exact repliesWith_congr (request_answered (tripClear_admitted h) rfl rfl rfl) rfl
  · refine repliesWith_congr (request_refused (tripClear_admitted h) ?_) rfl
    unfold serveTripClear
    split
    · omega
    · omega
    · rfl
  · exact request_refused (owner := refuse .locked) (congrArg _ (onRequest_locked h rfl rfl)) rfl

end Sys2Proof.Machine.RoadSpeed
end

section
/-!
SUPPORT. STORE_READ, STORE_WRITE and ODO_SET (R189, R190, R44).
-/

namespace Sys2Proof.Machine.RoadSpeed

theorem storeRead_admitted {l : LinkId} {tag area count : Byte} {offset : Half} {s : State} (h : Admits l s) :
    exec (.storeRead l tag area offset count) s =
      .next (finish s (placeAnswer l 0x30#8 tag (serveStoreRead l area offset count (s.heard l)))) :=
  congrArg _ (onRequest_admitted h rfl rfl (fun _ e => absurd e (by decide)))

theorem storeWrite_admitted {l : LinkId} {tag area : Byte} {offset : Half} {bs : List Byte} {s : State} (h : Admits l s) :
    exec (.storeWrite l tag area offset bs) s =
      .next (finish s (placeAnswer l 0x31#8 tag (serveStoreWrite l area offset bs (s.heard l)))) :=
  congrArg _ (onRequest_admitted h rfl rfl (fun _ e => absurd e (by decide)))

theorem odoSet_admitted {tag : Byte} {value : Word} {s : State} (h : Admits .service s) (ho : s.svc.isOpen = true) :
    exec (.odoSet .service tag value) s =
      .next (finish s (placeAnswer .service 0x49#8 tag (serveOdoSet value (s.heard .service)))) :=
  congrArg _ (onRequest_admitted h rfl rfl (fun _ _ => ho))

/-- R189: the refusals of STORE_READ. -/
theorem serveStoreRead_refuses (l : LinkId) {area count : Byte} {offset : Half} (s : State)
    (h : count = 0#8 ∨ 96 < count.toNat ∨ ∀ a : Area, Area.ofCode area.toNat = some a → a.size ≤ offset.toNat) :
    serveStoreRead l area offset count s = refuse .badArg s := by
  unfold serveStoreRead
  split
  · rfl
  · next a code =>
    refine if_pos ?_
    rcases h with rfl | many | beyond
    · exact .inl rfl
    · exact .inr (.inl many)
    · exact .inr (.inr (beyond a code))

/-- R189: STORE_READ hands the read of its span, cut at the end of the area. -/
theorem serveStoreRead_hands (l : LinkId) {area count : Byte} {offset : Half} (s : State) {a : Area}
    (code : Area.ofCode area.toNat = some a) (some1 : 1 ≤ count.toNat) (most : count.toNat ≤ 96)
    (within : offset.toNat < a.size) :
    serveStoreRead l area offset count s =
      { state := handLinkAccess l (.linkRead l a offset.toNat (min count.toNat (a.size - offset.toNat))) s
        answer := .held } := by
  unfold serveStoreRead largestSpan
  simp only [code]
  exact if_neg (by omega)

theorem areaCode_none {n : Nat} (h : 4 < n) : Area.ofCode n = none := by
  obtain ⟨k, rfl⟩ := Nat.exists_eq_add_of_le' (Nat.succ_le_of_lt h)
  rfl

/-- R190: an area that is none, no bytes or too many of them are BAD_ARG, ahead of what the area earns. -/
theorem serveStoreWrite_badArg (l : LinkId) {area : Byte} (offset : Half) {bs : List Byte} (s : State)
    (h : 4 < area.toNat ∨ bs = [] ∨ 96 < bs.length) : serveStoreWrite l area offset bs s = refuse .badArg s := by
  unfold serveStoreWrite
  split
  · rfl
  · next a code =>
    refine if_pos ?_
    rcases h with none | rfl | many
    · rw [areaCode_none none] at code
      cases code
    · exact .inl rfl
    · exact .inr many

section
variable {l : LinkId} {area : Byte} {offset : Half} {bs : List Byte} {a : Area} {s : State}

theorem span_allowed (some1 : bs ≠ []) (most : bs.length ≤ 96) : ¬ (bs.length = 0 ∨ bs.length > largestSpan) := by
  simpa [largestSpan] using And.intro some1 most

/-- R190: what the area and the offset earn is answered ahead of the offset's own test. -/
theorem serveStoreWrite_refuses {st : Status} (code : Area.ofCode area.toNat = some a) (some1 : bs ≠ [])
    (most : bs.length ≤ 96) (h : writeRefusal l a offset.toNat s.svc.isOpen = some st) : serveStoreWrite l area offset bs s = refuse st s := by
  simp only [serveStoreWrite, code, if_neg (span_allowed some1 most), h]

theorem serveStoreWrite_beyond (code : Area.ofCode area.toNat = some a) (some1 : bs ≠ []) (most : bs.length ≤ 96)
    (h : writeRefusal l a offset.toNat s.svc.isOpen = none) (beyond : a.size ≤ offset.toNat) :
    serveStoreWrite l area offset bs s = refuse .badArg s := by
  simp only [serveStoreWrite, code, if_neg (span_allowed some1 most), h]
  exact if_pos beyond

/-- R190: STORE_WRITE hands the write of its bytes, cut at the end of the area. -/
theorem serveStoreWrite_hands (code : Area.ofCode area.toNat = some a) (some1 : bs ≠ []) (most : bs.length ≤ 96)
    (h : writeRefusal l a offset.toNat s.svc.isOpen = none) (within : offset.toNat < a.size) :
    serveStoreWrite l area offset bs s =
      { state := handLinkAccess l (.linkWrite l a offset.toNat (bs.take (a.size - offset.toNat)) (decide (a = .ident))) s
        answer := .held } := by
  simp only [serveStoreWrite, code, if_neg (span_allowed some1 most), h]
  exact if_neg (by omega)

theorem writeRefusal_locked {isOpen : Bool} {offset : Nat}
    (h : a = .config ∨ a = .odo ∨ a = .faults ∨ (a = .ident ∧ (l = .display ∨ offset < 128))) :
    writeRefusal l a offset isOpen = some .locked := by
  rcases h with rfl | rfl | rfl | ⟨rfl, h⟩
  · rfl
  · rfl
  · rfl
  · exact if_pos h

theorem writeRefusal_ident {isOpen : Bool} {offset : Nat} (h : 128 ≤ offset) :
    writeRefusal .service .ident offset isOpen = if isOpen then none else some .serviceClosed :=
  if_neg (by simp; omega)

theorem writeRefusal_none {isOpen : Bool} {offset : Nat}
    (h : a = .user ∨ (a = .ident ∧ l = .service ∧ 128 ≤ offset ∧ isOpen = true)) :
    writeRefusal l a offset isOpen = none := by
  rcases h with rfl | ⟨rfl, rfl, upper, rfl⟩
  · rfl
  · exact writeRefusal_ident upper

end

theorem withdrawScheduled_eq {s : State} (h : s.speed.scheduled ≠ .waiting) : withdrawScheduled s = s := if_neg h

/-- R44: the refusals of ODO_SET, in order. -/
theorem serveOdoSet_badArg {value : Word} (s : State) (h : 99999999 < value.toNat) :
    serveOdoSet value s = refuse .badArg s := if_pos h

theorem serveOdoSet_unloaded {value : Word} {s : State} (h : value.toNat ≤ 99999999) (hl : s.speed.loaded = false) :
    serveOdoSet value s = refuse .storeFault s := by
  unfold serveOdoSet
  rw [if_neg (by omega), if_pos hl]

theorem serveOdoSet_refusedMode {value : Word} {s : State} (h : value.toNat ≤ 99999999) (hl : s.speed.loaded = true)
    (hr : value.toNat < s.speed.working ∨ 500 < s.speed.working) : serveOdoSet value s = refuse .refusedMode s := by
  unfold serveOdoSet
  rw [if_neg (by omega), if_neg (by simp [hl]), if_pos hr]

theorem serveOdoSet_hands {value : Word} {s : State} (h : value.toNat ≤ 99999999) (hl : s.speed.loaded = true)
    (hr : s.speed.working ≤ value.toNat) (hw : s.speed.working ≤ 500) (hs : s.speed.scheduled ≠ .waiting) :
    serveOdoSet value s =
      { state := handLinkAccess .service .odoSet { s with speed := { s.speed with working := value.toNat } }
        answer := .held } := by
  unfold serveOdoSet
  rw [if_neg (by omega), if_neg (by simp [hl]), if_neg (by omega)]
  exact congrArg (fun t => ({ state := handLinkAccess .service .odoSet t, answer := .held } : Served))
    (withdrawScheduled_eq hs)

/-- Settles O56: each owner refuses in the order of its rule, or hands the idle store its one access, which starts at once. -/
theorem storeRequestsHoldTheirReplies : Obligations.StoreRequestsHoldTheirReplies := by
  intro tag s settled
  refine ⟨fun l area offset count u adm hu => ?_, fun l area offset bs u adm hu => ?_, fun value u adm isOpen hu => ?_⟩
  all_goals subst hu
  · refine ⟨fun a code some1 most within idle n hn => ?_, fun h => ?_⟩
    · subst hn
      exact request_flies (storeRead_admitted adm) (serveStoreRead_hands l _ code some1 most within)
        (heard_storeIdle l idle) rfl rfl (heard_settled l settled)
    · exact request_refused (storeRead_admitted adm) (serveStoreRead_refuses l _ h)
  · refine ⟨fun h => ?_, fun some1 most a code => ⟨fun h => ?_, fun ha hl upper closed => ?_, fun h => ?_⟩⟩
    · exact request_refused (storeWrite_admitted adm) (serveStoreWrite_badArg l _ _ h)
    · exact request_refused (storeWrite_admitted adm) (serveStoreWrite_refuses code some1 most (writeRefusal_locked h))
    · subst ha hl
      exact request_refused (storeWrite_admitted adm) (serveStoreWrite_refuses code some1 most
        (by rw [heard_isOpen, closed, writeRefusal_ident upper]; rfl))
    · have allowed : writeRefusal l a offset.toNat (s.heard l).svc.isOpen = none := by
        rw [heard_isOpen]
        exact writeRefusal_none h
      refine ⟨fun beyond => ?_, fun within idle kept hk => ?_⟩
      · exact request_refused (storeWrite_admitted adm) (serveStoreWrite_beyond code some1 most allowed beyond)
      · subst hk
        exact request_flies (storeWrite_admitted adm) (serveStoreWrite_hands code some1 most allowed within)
          (heard_storeIdle l idle) rfl rfl (heard_settled l settled)
  · refine ⟨fun h => ?_, fun h hl => ?_, fun h hl hr => ?_, fun h hl hr hw hs idle => ?_⟩
    · exact request_refused (odoSet_admitted adm isOpen) (serveOdoSet_badArg _ h)
    · exact request_refused (odoSet_admitted adm isOpen) (serveOdoSet_unloaded h (by rwa [heard_speed]))
    · exact request_refused (odoSet_admitted adm isOpen)
        (serveOdoSet_refusedMode h (by rwa [heard_speed]) (by rwa [heard_speed]))
    · exact request_flies (odoSet_admitted adm isOpen)
        (serveOdoSet_hands h (by rwa [heard_speed]) (by rwa [heard_speed]) (by rwa [heard_speed]) (by rwa [heard_speed]))
        (heard_storeIdle .service idle) rfl rfl ((heard_settled .service settled).congr rfl rfl)

end Sys2Proof.Machine.RoadSpeed
end

section
/-!
SUPPORT. The doorway evaluation (R76 to R82, R91 to R95), one lemma per item of the monitor and of a doorway's record.
-/

namespace Sys2Proof.Machine.Doorways

/-- A fixed collection's test by its indices. -/
theorem any_iff_index {α : Type} {n : Nat} (v : Vector α n) (p : α → Bool) :
    v.toList.any p = true ↔ ∃ i : Fin n, p v[i] = true := by
  rw [Vector.any_toList, Vector.any_iff_exists]
  exact ⟨fun ⟨i, h, hp⟩ => ⟨⟨i, h⟩, hp⟩, fun ⟨i, hp⟩ => ⟨i.val, i.isLt, hp⟩⟩

theorem all_iff_index {α : Type} {n : Nat} (v : Vector α n) (p : α → Bool) :
    v.toList.all p = true ↔ ∀ i : Fin n, p v[i] = true := by
  rw [Vector.all_toList, Vector.all_iff_forall]
  exact ⟨fun h i => h i.val i.isLt, fun h i hi => h ⟨i, hi⟩⟩

/-! The classes of doorway states (R82, R91, R93). -/

theorem callsBrake_iff (x : DoorState) :
    x.callsBrake = true ↔ x = .openDoor ∨ x = .obstructed ∨ x = .released ∨ x = .fault := by
  cases x <;> decide

theorem shut_iff (x : DoorState) : x.shut = true ↔ x = .disabled ∨ x = .closed ∨ x = .locked := by
  cases x <;> decide

theorem holdsDrive_iff (x : DoorState) : x.holdsDrive = true ↔ x ≠ .disabled ∧ x ≠ .locked := by
  cases x <;> decide

/-! One doorway's record. -/

section
variable (s : State) (d : Fin 4) (D : Doorway)

@[simp] theorem evalDoors_door : s.evalDoors.door[d] = s.evalDoor d s.doors.door[d] := by
  simp [State.evalDoors]

@[simp] theorem evalDoor_sense : (s.evalDoor d D).sense = D.sense := rfl
@[simp] theorem evalDoor_resense : (s.evalDoor d D).resense = D.resense := rfl

theorem evalDoor_phase : (s.evalDoor d D).phase =
    if s.store.cfgState = .ready ∧ D.configured ≠ some true then .none else D.phase := rfl

end

section
variable {s : State} {d : Fin 4} {D : Doorway}

/-- R77: no row of a doorway's own holds before the configuration is in use. -/
theorem evalDoor_unready (h : s.store.cfgState ≠ .ready) :
    (s.evalDoor d D).state = .unconfigured ∧ (s.evalDoor d D).confirmed = false ∧
      (s.evalDoor d D).lineFault = false ∧ (s.evalDoor d D).phase = D.phase := by
  simp [State.evalDoor, State.doorState, h]

/-- R78: a doorway that is not configured. -/
theorem evalDoor_disabled (h : s.store.cfgState = .ready) (hc : D.configured ≠ some true) :
    (s.evalDoor d D).state = .disabled ∧ (s.evalDoor d D).confirmed = false ∧
      (s.evalDoor d D).lineFault = false ∧ (s.evalDoor d D).phase = .none := by
  simp [State.evalDoor, State.doorState, h, hc]

theorem evalDoor_phase_live (hc : D.configured = some true) : (s.evalDoor d D).phase = D.phase := by
  rw [evalDoor_phase, if_neg (fun e => e.2 hc)]

/-- R79: a confirmed contradiction starts no timer again. -/
theorem evalDoor_timer_confirmed (hf : D.confirmed = true) : (s.evalDoor d D).timer = none := by
  simp [State.evalDoor, hf]

section
variable (h : s.store.cfgState = .ready) (hc : D.configured = some true)
include h hc

/-- R79: a confirmed contradiction stands while the roles contradict each other. -/
theorem evalDoor_confirmed_live : (s.evalDoor d D).confirmed = true ↔
    D.confirmed = true ∧ s.roleOn (.locked d) = true ∧ s.roleOn (.closed d) = false := by
  simp [State.evalDoor, h, hc]

/-- R81. -/
theorem evalDoor_lineFault_live : (s.evalDoor d D).lineFault = true ↔ (s.role (.closed d)).cond.declared = true ∨
    (s.role (.locked d)).cond.declared = true ∨ (s.role (.edge d)).cond.declared = true := by
  simp [State.evalDoor, State.doorLineFault, h, hc, or_assoc]

/-- R77: the rows of a doorway in use, first to last. -/
theorem doorState_live : s.doorState d D =
    if D.phase ≠ .none then .released
    else if D.confirmed = true ∨ D.lineFault = true then .fault
    else if s.roleOn (.edge d) = true ∧ s.roleOn (.closed d) = false then .obstructed
    else if s.roleOn (.closed d) = false then .openDoor
    else if s.roleOn (.locked d) = false then .closed
    else .locked := by
  unfold State.doorState
  rw [if_pos h, if_neg (fun e => e hc)]
  cases s.roleOn (.closed d) <;> cases s.roleOn (.locked d) <;> simp

theorem evalDoor_state_live : (s.evalDoor d D).state =
    if D.phase ≠ .none then .released
    else if (s.evalDoor d D).confirmed = true ∨ (s.evalDoor d D).lineFault = true then .fault
    else if s.roleOn (.edge d) = true ∧ s.roleOn (.closed d) = false then .obstructed
    else if s.roleOn (.closed d) = false then .openDoor
    else if s.roleOn (.locked d) = false then .closed
    else .locked := by
  rw [← evalDoor_phase_live (s := s) (d := d) hc]
  exact doorState_live (D := s.evalDoor d D) h hc

end

end

/-! The monitor's demands. -/

section
variable (s : State)

/-- R82: the causes of the door brake. -/
theorem evalDoors_dbCause : s.evalDoors.dbCause = true ↔
    (∃ d : Fin 4, s.evalDoors.door[d].state = .openDoor ∨ s.evalDoors.door[d].state = .obstructed ∨
      s.evalDoors.door[d].state = .released ∨ s.evalDoors.door[d].state = .fault) ∨
    s.roleOn .ramp = true ∨ s.roleOn .kneel = true := by
  have cause : s.evalDoors.dbCause =
      (s.evalDoors.door.toList.any (fun D => D.state.callsBrake) || s.roleOn .ramp || s.roleOn .kneel) := rfl
  rw [cause, Bool.or_assoc, Bool.or_eq_true, Bool.or_eq_true, any_iff_index]
  simp only [callsBrake_iff]

/-- R91: what holds the drive interlock. -/
theorem evalDoors_diDemand : s.evalDoors.diDemand = true ↔
    (∃ d : Fin 4, s.evalDoors.door[d].state ≠ .disabled ∧ s.evalDoors.door[d].state ≠ .locked) ∨
    s.roleOn .ramp = true ∨ s.roleOn .kneel = true := by
  have holds : s.evalDoors.diDemand =
      (s.evalDoors.door.toList.any (fun D => D.state.holdsDrive) || s.roleOn .ramp || s.roleOn .kneel) := rfl
  rw [holds, Bool.or_assoc, Bool.or_eq_true, Bool.or_eq_true, any_iff_index]
  simp only [holdsDrive_iff]

/-- R95. -/
theorem evalDoors_openMoving : s.evalDoors.openMoving = true ↔ s.evalDoors.dbCause = true ∧ s.speed.moving = true :=
  Bool.and_eq_true_iff

/-- R93: a standing brake demand ends with every doorway shut and the ramp and kneel clear. -/
theorem evalDoors_dbDemand_standing (h : s.doors.dbDemand = true) : s.evalDoors.dbDemand = false ↔
    (∀ d : Fin 4, s.evalDoors.door[d].state = .disabled ∨ s.evalDoors.door[d].state = .closed ∨
      s.evalDoors.door[d].state = .locked) ∧ s.roleOn .ramp = false ∧ s.roleOn .kneel = false := by
  have demand : s.evalDoors.dbDemand =
      !(s.evalDoors.door.toList.all (fun D => D.state.shut) && !s.roleOn .ramp && !s.roleOn .kneel) := if_pos h
  rw [demand, Bool.not_eq_false', Bool.and_assoc, Bool.and_eq_true, Bool.and_eq_true, all_iff_index]
  simp only [shut_iff, Bool.not_eq_true']

/-- R92: a new brake demand needs a cause and a bus that is settled and not moving. -/
theorem evalDoors_dbDemand_new (h : s.doors.dbDemand = false) : s.evalDoors.dbDemand = true ↔
    s.evalDoors.dbCause = true ∧ s.speed.moving = false ∧ s.speed.settled = true := by
  have demand : s.evalDoors.dbDemand = (s.evalDoors.dbCause && !(s.speed.moving || !s.speed.settled)) :=
    if_neg (by simp [h])
  simp [demand]

end

/-- Settles O40: the demands item by item, and each doorway by the configuration's state and its own configuration. -/
theorem interlocksFollowTheDoorways : Obligations.InterlocksFollowTheDoorways := by
  refine fun s => ⟨evalDoors_dbDemand_standing s, evalDoors_dbDemand_new s, evalDoors_dbCause s, evalDoors_diDemand s,
    evalDoors_openMoving s, fun d D E hD hE => ?_⟩
  rw [evalDoors_door, ← hD] at hE
  subst hE
  exact ⟨evalDoor_unready, evalDoor_disabled, fun h hc => ⟨evalDoor_phase_live hc, evalDoor_confirmed_live h hc,
    evalDoor_lineFault_live h hc, evalDoor_state_live h hc⟩⟩

end Sys2Proof.Machine.Doorways
end

section
/-!
SUPPORT. What the deliveries of a doorway evaluation leave alone (R76), and the expiry of a contradiction (R79).
-/

namespace Sys2Proof.Machine.Doorways
open RoadSpeed

/-- Two states with the same Doorway Monitor and the same traffic on the links. -/
structure SameDoors (s t : State) : Prop where
  doors : t.doors = s.doors
  traffic : ∀ k, (t.link k).traffic = (s.link k).traffic

theorem SameDoors.refl (s : State) : SameDoors s s := ⟨rfl, fun _ => rfl⟩

theorem SameDoors.trans {s t u : State} (h : SameDoors s t) (k : SameDoors t u) : SameDoors s u :=
  ⟨k.doors.trans h.doors, fun l => (k.traffic l).trans (h.traffic l)⟩

theorem SameDoors.of_eq {s t : State} (h : t.doors = s.doors) (hl : t.links = s.links) : SameDoors s t :=
  ⟨h, fun k => by rw [State.link, hl, State.link]⟩

theorem SameDoors.of_filed {s t : State} (h : Filed s t) : SameDoors s t :=
  ⟨congrArg State.doors (a₁ := t.offFiling) (a₂ := s.offFiling) h.rest, h.traffic⟩

theorem SameDoors.foldl {α : Type} {f : State → α → State} (hf : ∀ s a, SameDoors s (f s a)) :
    (as : List α) → (s : State) → SameDoors s (as.foldl f s)
  | [], s => .refl s
  | a :: as, s => (hf s a).trans (SameDoors.foldl hf as (f s a))

theorem raiseTopic_sameDoors (t : Topic) (s : State) : SameDoors s (raiseTopic t s) :=
  .of_filed (raiseTopic_filed t s)

theorem outputEval_sameDoors (s : State) : SameDoors s (outputEval s) := .of_eq rfl rfl

/-- What only decides for the chime leaves every block but the Output Unit. -/
theorem chimeDecide_eq (s : State) : chimeDecide s = { s with out := (chimeDecide s).out } := by
  unfold chimeDecide
  split <;> rfl

theorem setDoorStanding_eq (on : Bool) (s : State) :
    setDoorStanding on s = { s with out := (setDoorStanding on s).out } := by
  unfold setDoorStanding
  split
  · rfl
  · exact chimeDecide_eq _

theorem setDoorStanding_sameDoors (on : Bool) (s : State) : SameDoors s (setDoorStanding on s) := by
  rw [setDoorStanding_eq]
  exact .of_eq rfl rfl

theorem contradictionNotice_filed (s0 s : State) (d : Fin 4) : Filed s (contradictionNotice s0 s d) := by
  unfold contradictionNotice
  dsimp only
  split
  · exact faultPresent_filed _ _ s
  · split
    · exact faultCleared_filed _ s
    · exact .refl s

theorem doorDeliveries_sameDoors (s0 s : State) : SameDoors s (doorDeliveries s0 s) := by
  unfold doorDeliveries
  dsimp only
  have notices := (outputEval_sameDoors s).trans ((setDoorStanding_sameDoors s.anyFlashing _).trans
    (SameDoors.foldl (fun t d => .of_filed (contradictionNotice_filed s0 t d)) (indices 4) _))
  split
  · exact notices
  · exact notices.trans (raiseTopic_sameDoors _ _)

/-- The end of a command moves no item beside the links. -/
theorem ended_item {α : Type} {u t : State} (h : Ends u t) (p : State → α) (hp : ∀ s, p s.offLinks = p s) : p t = p u := by
  rw [← hp t, h.offLinks, hp]

/-- R76: the monitor after an evaluation; the deliveries do not move it. -/
theorem doorEvalFrom_doors (s0 s : State) : (doorEvalFrom s0 s).doors = s.evalDoors :=
  (doorDeliveries_sameDoors s0 { s with doors := s.evalDoors }).doors

theorem doorEvalFrom_traffic (s0 s : State) (k : LinkId) :
    ((doorEvalFrom s0 s).link k).traffic = (s.link k).traffic :=
  (doorDeliveries_sameDoors s0 { s with doors := s.evalDoors }).traffic k

theorem doorEvalFrom_door (s0 s : State) (d : Fin 4) :
    (doorEvalFrom s0 s).doors.door[d] = s.evalDoor d s.doors.door[d] := by
  rw [doorEvalFrom_doors, evalDoors_door]

theorem road_working {s t : State} (h : SameRoad s t) : t.speed.working = s.speed.working :=
  congrArg SpeedUnit.working (a₁ := unmarked t.speed) (a₂ := unmarked s.speed) h.speed

/-- An event that stays beside the Power Controller and the configuration's state leaves a settled mode settled. -/
theorem beside_ends {f : State → State} {s : State} (awake : s.awake = true) (settled : ModeSettled s) (h : Beside s (f s)) :
    Ends (f s) (whenAwake f s) :=
  whenAwake_ends awake (.inr (settled.congr h.power h.cfgState))

/-! One doorway's record changed, and then evaluated. -/

section
variable (s : State) (d k : Fin 4) (f : Doorway → Doorway)

theorem modDoor_door : (s.modDoor d f).doors.door[k] = if d = k then f s.doors.door[d] else s.doors.door[k] := by
  simp [State.modDoor, Fin.ext_iff]

theorem modDoor_door_same : (s.modDoor d f).doors.door[d] = f s.doors.door[d] := by
  rw [modDoor_door, if_pos rfl]

/-- An evaluation reads the channels, the forces and the configuration's state, not the doorways' records. -/
theorem modDoor_evalDoor (D : Doorway) : (s.modDoor d f).evalDoor k D = s.evalDoor k D := rfl

/-- A field that neither the change nor the evaluation writes. -/
theorem evalDoor_modDoor_field {α : Type} (p : Doorway → α) (he : ∀ D, p (s.evalDoor k D) = p D) (hf : ∀ D, p (f D) = p D) :
    p (s.evalDoor k (s.modDoor d f).doors.door[k]) = p s.doors.door[k] := by
  rw [he, modDoor_door]
  split
  · next e => subst e; exact hf _
  · rfl

end

/-- R79: a doorway's record as the expiry leaves it to the evaluation. -/
def confirm (D : Doorway) : Doorway := { D with timer := none, confirmed := true }

/-- R79: the part at the expiry, ahead of the command's end. -/
def confirmAt (d : Fin 4) (s : State) : State := doorEvalFrom s (s.modDoor d confirm)

theorem contradictionExpiry_next {d : Fin 4} {s : State} (h : s.doors.door[d].timer.isSome = true) :
    exec (.contradictionExpiry d) s = .next (whenAwake (confirmAt d) s) := by
  have due : guarded (fun t => t.doors.door[d].timer.isSome) (confirmAt d) s = confirmAt d s := guarded_pos h
  change Host.Outcome.next (whenAwake (guarded (fun t => t.doors.door[d].timer.isSome) (confirmAt d)) s) = _
  simp only [whenAwake, due]

theorem confirmAt_door (d : Fin 4) (s : State) :
    (confirmAt d s).doors.door[d] = s.evalDoor d (confirm s.doors.door[d]) := by
  rw [confirmAt, doorEvalFrom_door, modDoor_evalDoor, modDoor_door_same]

section
variable {s : State} {d : Fin 4} {D : Doorway} (ready : s.store.cfgState = .ready) (configured : D.configured = some true)
  (locked : s.roleOn (.locked d) = true) (unclosed : s.roleOn (.closed d) = false)
include ready configured locked unclosed

theorem evalDoor_confirm_confirmed : (s.evalDoor d (confirm D)).confirmed = true :=
  (evalDoor_confirmed_live (D := confirm D) ready configured).2 ⟨rfl, locked, unclosed⟩

/-- R77, R79: a confirmed contradiction reads FAULT unless a release stands. -/
theorem evalDoor_confirm_state : (s.evalDoor d (confirm D)).state = if D.phase = .none then .fault else .released := by
  have confirmed := evalDoor_confirm_confirmed ready configured locked unclosed
  have phase : (confirm D).phase = D.phase := rfl
  rw [evalDoor_state_live (D := confirm D) ready configured, phase]
  by_cases none : D.phase = .none
  · rw [if_pos none, if_neg (fun e => e none), if_pos (.inl confirmed)]
  · rw [if_neg none, if_pos none]

end

theorem confirmAt_dbCause {s : State} {d : Fin 4} (h : (confirmAt d s).doors.door[d].state = .fault ∨
    (confirmAt d s).doors.door[d].state = .released) : (confirmAt d s).doors.dbCause = true := by
  rw [confirmAt, doorEvalFrom_doors] at h ⊢
  refine (evalDoors_dbCause _).2 (.inl ⟨d, ?_⟩)
  rcases h with fault | released
  · exact .inr (.inr (.inr fault))
  · exact .inr (.inr (.inl released))

theorem confirmAt_beside (d : Fin 4) (s : State) : Beside s (confirmAt d s) :=
  (modDoor_beside d confirm s).trans (doorEvalFrom_beside s _)

theorem confirmAt_road (d : Fin 4) (s : State) : SameRoad s (confirmAt d s) :=
  SameRoad.trans (t := s.modDoor d confirm) (.of_eq rfl) (doorEvalFrom_road s _)

theorem confirmAt_sense (d k : Fin 4) (s : State) : (confirmAt d s).doors.door[k].sense = s.doors.door[k].sense := by
  rw [confirmAt, doorEvalFrom_door]
  exact evalDoor_modDoor_field s d k confirm Doorway.sense (evalDoor_sense s k) (fun _ => rfl)

/-- Settles O39: the expiry confirms the contradiction and evaluates the doorways; the command's end moves the links alone. -/
theorem contradictionExpiryConfirms : Obligations.ContradictionExpiryConfirms := by
  intro d s awake settled ready configured timing locked unclosed
  have beside := confirmAt_beside d s
  have ended := beside_ends awake settled beside
  have state : (confirmAt d s).doors.door[d].state = if s.doors.door[d].phase = .none then .fault else .released := by
    rw [confirmAt_door]
    exact evalDoor_confirm_state ready configured locked unclosed
  have cause : (confirmAt d s).doors.dbCause = true := confirmAt_dbCause (by
    rw [state]
    split
    · exact .inl rfl
    · exact .inr rfl)
  refine ⟨_, contradictionExpiry_next timing, ?_⟩
  generalize whenAwake (confirmAt d) s = t at ended
  rw [ended_item ended State.doors State.offLinks_doors, ended_item ended State.sig State.offLinks_sig,
    ended_item ended State.power State.offLinks_power, ended_item ended State.gauges State.offLinks_gauges,
    ended_item ended State.warn State.offLinks_warn, ended_item ended State.speed State.offLinks_speed]
  refine ⟨?_, ?_, state, cause, fun k => confirmAt_sense d k s, ?_⟩
  · rw [confirmAt_door]
    exact evalDoor_confirm_confirmed ready configured locked unclosed
  · rw [confirmAt_door]
    exact evalDoor_timer_confirmed rfl
  · exact ⟨beside.sig, beside.power, beside.gauges, beside.warn, road_working (confirmAt_road d s)⟩

end Sys2Proof.Machine.Doorways
end

section
/-!
SUPPORT. Requests that their owner answers at once with a change of the part (R213), and RELEASE_ACK (R86).
-/

namespace Sys2Proof.Machine.Doorways
open RoadSpeed

/-! What two links of the same traffic have in common. -/

section
variable {a b : Link} (h : a.traffic = b.traffic)
include h

theorem traffic_rx : a.rx = b.rx := congrArg Prod.fst h
theorem traffic_replies : a.replies = b.replies := congrArg (fun t => t.2.2.1) h
theorem traffic_tx : a.tx = b.tx := congrArg (fun t => t.2.2.2.1) h
theorem traffic_settings : a.settings = b.settings := congrArg (fun t => t.2.2.2.2) h

end

@[simp] theorem heard_doors (s : State) (l : LinkId) : (s.heard l).doors = s.doors := by
  unfold State.heard resetSilence
  split <;> rfl

@[simp] theorem heard_warn (s : State) (l : LinkId) : (s.heard l).warn = s.warn := by
  unfold State.heard resetSilence
  split <;> rfl

/-- An owner that answers at once, with the traffic as the accepted frame left it, and with no parking condition changed
or the mode settled and the change beside the Power Controller. -/
theorem request_served {c : Instr} {l : LinkId} {code tag : Byte} {owner : State → Served} {s v : State} {st : Status}
    {fields : List Byte} (hx : exec c s = .next (finish s (placeAnswer l code tag (owner (s.heard l)))))
    (hv : owner (s.heard l) = answerNow st fields v) (hl : ∀ k, (v.link k).traffic = ((s.heard l).link k).traffic)
    (hp : v.parkConditions = s.parkConditions ∨ (ModeSettled s ∧ Beside (s.heard l) v)) :
    RepliesWith c l code tag st fields s v := by
  have calm : v.parkConditions = s.parkConditions ∨ ModeSettled v :=
    hp.imp id (fun ⟨settled, beside⟩ => (heard_settled l settled).congr beside.power beside.cfgState)
  refine request_now hx hv calm ?_ ⟨?_, fun k hk => ?_⟩ fun k => ?_
  · rw [← heard_outgoing s l l, State.outgoing, State.outgoing, traffic_tx (hl l), traffic_replies (hl l)]
  · rw [traffic_rx (hl l), (heard_accepted s l).1]
  · rw [traffic_rx (hl k), (heard_accepted s l).2 k hk]
  · rw [traffic_settings (hl k), heard_settings]

theorem releaseAck_admitted {tag index : Byte} {s : State} (h : Admits .display s) :
    exec (.releaseAck .display tag index) s =
      .next (finish s (placeAnswer .display 0x27#8 tag (serveReleaseAck index (s.heard .display)))) :=
  congrArg _ (onRequest_admitted h rfl rfl (fun e => nomatch e))

/-- R86: a doorway whose release phase is acknowledged, evaluated. -/
def acknowledgeAt (d : Fin 4) (phase : ReleasePhase) (s : State) : State :=
  doorEvalFrom s (s.modDoor d (fun D => { D with phase := phase }))

theorem serveReleaseAck_badArg {index : Byte} (s : State) (h : 3 < index.toNat) :
    serveReleaseAck index s = refuse .badArg s := dif_neg (by omega)

section
variable {index : Byte} {d : Fin 4} {s : State} (h : index.toNat = d.val)
include h

/-- R86: the owner's answer for a doorway that is, by what its phase owes. -/
theorem serveReleaseAck_eq : serveReleaseAck index s =
    if s.doors.door[d].state = .disabled then refuse .notPending s
    else s.doors.door[d].phase.acknowledge.elim (refuse .notPending s)
      (fun phase => answerNow .ok [] (acknowledgeAt d phase s)) := by
  have named : (⟨index.toNat, h ▸ d.isLt⟩ : Fin 4) = d := Fin.ext h
  unfold serveReleaseAck
  rw [dif_pos (h ▸ d.isLt)]
  simp only [named]
  cases s.doors.door[d].phase.acknowledge <;> rfl

theorem serveReleaseAck_refuses (hd : s.doors.door[d].state = .disabled ∨ s.doors.door[d].phase = .none ∨
    s.doors.door[d].phase = .acked) : serveReleaseAck index s = refuse .notPending s := by
  rw [serveReleaseAck_eq h]
  split
  · rfl
  · next enabled =>
    rcases hd with disabled | idle | acked
    · exact absurd disabled enabled
    · rw [idle]; rfl
    · rw [acked]; rfl

theorem serveReleaseAck_acknowledges (enabled : s.doors.door[d].state ≠ .disabled)
    (owed : s.doors.door[d].phase = .pulled ∨ s.doors.door[d].phase = .restoredUnacked) :
    serveReleaseAck index s =
      answerNow .ok [] (acknowledgeAt d (if s.doors.door[d].phase = .pulled then .acked else .none) s) := by
  rw [serveReleaseAck_eq h, if_neg enabled]
  rcases owed with pulled | restored
  · rw [pulled]; rfl
  · rw [restored]; rfl

end

section
variable (d k : Fin 4) (phase : ReleasePhase) (s : State)

theorem acknowledgeAt_beside : Beside s (acknowledgeAt d phase s) :=
  (modDoor_beside d _ s).trans (doorEvalFrom_beside s _)

theorem acknowledgeAt_road : SameRoad s (acknowledgeAt d phase s) :=
  SameRoad.trans (t := s.modDoor d _) (.of_eq rfl) (doorEvalFrom_road s _)

theorem acknowledgeAt_traffic (l : LinkId) : ((acknowledgeAt d phase s).link l).traffic = (s.link l).traffic :=
  doorEvalFrom_traffic s (s.modDoor d _) l

theorem acknowledgeAt_eeprom : (acknowledgeAt d phase s).eeprom = s.eeprom := (doorEvalFrom_quiet s _).eeprom

/-- R78, R86: the phases after an acknowledgement; a doorway that READY finds not configured has none. -/
theorem acknowledgeAt_phase : (acknowledgeAt d phase s).doors.door[k].phase =
    if s.store.cfgState = .ready ∧ s.doors.door[k].configured ≠ some true then .none
    else if d = k then phase else s.doors.door[k].phase := by
  rw [acknowledgeAt, doorEvalFrom_door, modDoor_evalDoor, evalDoor_phase, modDoor_door]
  split
  · next e => subst e; rfl
  · rfl

theorem acknowledgeAt_sense : (acknowledgeAt d phase s).doors.door[k].sense = s.doors.door[k].sense := by
  rw [acknowledgeAt, doorEvalFrom_door]
  exact evalDoor_modDoor_field s d k _ Doorway.sense (evalDoor_sense s k) (fun _ => rfl)

theorem acknowledgeAt_resense : (acknowledgeAt d phase s).doors.door[k].resense = s.doors.door[k].resense := by
  rw [acknowledgeAt, doorEvalFrom_door]
  exact evalDoor_modDoor_field s d k _ Doorway.resense (evalDoor_resense s k) (fun _ => rfl)

end

end Sys2Proof.Machine.Doorways
end

section
/-!
SUPPORT. Acknowledged entries and the closing steps of the Warning Manager (R103, R119, R120, R123 to R126), and WARN_ACK (R124).
-/

namespace Sys2Proof.Machine.Doorways
open RoadSpeed

/-- Two managers with the same definitions, class map, triggers, fed flags and markers. -/
structure SameTriggers (m n : WarningManager) : Prop where
  trigger : n.trigger = m.trigger
  defs : n.defs = m.defs
  map : n.map = m.map
  fedFlag : n.fedFlag = m.fedFlag
  marker : n.marker = m.marker

theorem SameTriggers.refl (m : WarningManager) : SameTriggers m m := ⟨rfl, rfl, rfl, rfl, rfl⟩

theorem SameTriggers.trans {m n o : WarningManager} (h : SameTriggers m n) (k : SameTriggers n o) : SameTriggers m o :=
  ⟨k.trigger.trans h.trigger, k.defs.trans h.defs, k.map.trans h.map, k.fedFlag.trans h.fedFlag, k.marker.trans h.marker⟩

/-! The list and the queue. -/

theorem mem_insertEntry {x e : WarnEntry} {es : List WarnEntry} (h : x ∈ insertEntry e es) : x = e ∨ x ∈ es := by
  induction es with
  | nil => exact .inl (List.mem_singleton.1 h)
  | cons y ys ih =>
    unfold insertEntry at h
    split at h
    · rcases List.mem_cons.1 h with here | later
      · exact .inr (List.mem_cons.2 (.inl here))
      · exact (ih later).imp id (List.mem_cons_of_mem y)
    · exact List.mem_cons.1 h

/-- R120: an admission scan makes no entry; it only numbers those it lists. -/
theorem mem_admitScan {fuel : Nat} {m : WarningManager} {x : WarnEntry}
    (h : x ∈ (WarningManager.admitScan fuel m).active ++ (WarningManager.admitScan fuel m).queue) :
    ∃ y ∈ m.active ++ m.queue, y.unlisted = x.unlisted := by
  induction fuel generalizing m with
  | zero => exact ⟨x, h, rfl⟩
  | succ fuel ih =>
    unfold WarningManager.admitScan at h
    split at h
    · exact ⟨x, h, rfl⟩
    · next e found =>
      obtain ⟨y, hy, same⟩ := ih h
      have waited : e ∈ m.active ++ m.queue := List.mem_append_right _ (List.mem_of_find?_eq_some found)
      rcases List.mem_append.1 hy with listed | queued
      · rcases mem_insertEntry listed with rfl | listed
        · exact ⟨e, waited, same⟩
        · exact ⟨y, List.mem_append_left _ listed, same⟩
      · exact ⟨y, List.mem_append_right _ (List.mem_filter.1 queued).1, same⟩

theorem admitScan_triggers (fuel : Nat) (m : WarningManager) : SameTriggers m (WarningManager.admitScan fuel m) := by
  induction fuel generalizing m with
  | zero => exact .refl m
  | succ fuel ih =>
    unfold WarningManager.admitScan
    split
    · exact .refl m
    · refine SameTriggers.trans ?_ (ih _)
      exact ⟨rfl, rfl, rfl, rfl, rfl⟩

/-- R119: a removal leaves no entry of the definition. -/
theorem remove_defn {w : Fin 56} {m : WarningManager} {x : WarnEntry} (h : x ∈ (m.remove w).active ++ (m.remove w).queue) :
    x.defn ≠ w := by
  have others : ∀ y ∈ m.active.filter (fun e => decide (e.defn ≠ w)) ++ m.queue.filter (fun e => decide (e.defn ≠ w)),
      y.defn ≠ w := by
    intro y hy
    rw [← List.filter_append] at hy
    simpa using (List.mem_filter.1 hy).2
  unfold WarningManager.remove at h
  dsimp only at h
  split at h
  · obtain ⟨y, hy, same⟩ := mem_admitScan h
    have defn : y.defn = x.defn := congrArg WarnEntry.defn (a₁ := y.unlisted) (a₂ := x.unlisted) same
    exact defn ▸ others y hy
  · exact others x h

theorem remove_triggers (w : Fin 56) (m : WarningManager) : SameTriggers m (m.remove w) := by
  unfold WarningManager.remove
  dsimp only
  split
  · refine SameTriggers.trans ?_ (admitScan_triggers _ _)
    exact ⟨rfl, rfl, rfl, rfl, rfl⟩
  · exact ⟨rfl, rfl, rfl, rfl, rfl⟩

/-! The acknowledgement (R124). -/

/-- The entry of a definition marked as acknowledged. -/
def markAcked (w : Fin 56) (m : WarningManager) : WarningManager := m.modEntry w (fun e => { e with acked := true })

section
variable {w : Fin 56} {m : WarningManager}

theorem ackEntry_gone (h : ∃ e ∈ m.active, e.defn = w ∧ e.present = false) : ackEntry w m = (markAcked w m).remove w :=
  if_pos (by simpa using h)

theorem ackEntry_present (h : ∀ e ∈ m.active, e.defn = w → e.present = true) : ackEntry w m = markAcked w m :=
  if_neg (by simpa using h)

/-- R124: the entry is acknowledged and stays, or is removed with its condition gone. -/
theorem ackEntry_cases (w : Fin 56) (m : WarningManager) :
    ackEntry w m = (markAcked w m).remove w ∨ ackEntry w m = markAcked w m := by
  unfold ackEntry
  dsimp only
  split
  · exact .inl rfl
  · exact .inr rfl

theorem markAcked_acked {e : WarnEntry} (h : e ∈ (markAcked w m).active ++ (markAcked w m).queue) (hw : e.defn = w) :
    e.acked = true := by
  have marked : (markAcked w m).active ++ (markAcked w m).queue =
      (m.active ++ m.queue).map (fun e => if e.defn = w then { e with acked := true } else e) := List.map_append.symm
  rw [marked] at h
  obtain ⟨y, -, rfl⟩ := List.mem_map.1 h
  by_cases own : y.defn = w
  · rw [if_pos own]
  · rw [if_neg own] at hw
    exact absurd hw own

theorem ackEntry_acked {e : WarnEntry} (h : e ∈ (ackEntry w m).active ++ (ackEntry w m).queue) (hw : e.defn = w) :
    e.acked = true := by
  rcases ackEntry_cases w m with removed | marked
  · rw [removed] at h
    exact absurd hw (remove_defn h)
  · rw [marked] at h
    exact markAcked_acked h hw

theorem ackEntry_triggers (w : Fin 56) (m : WarningManager) : SameTriggers m (ackEntry w m) := by
  have marked : SameTriggers m (markAcked w m) := ⟨rfl, rfl, rfl, rfl, rfl⟩
  rcases ackEntry_cases w m with e | e
  · rw [e]
    exact marked.trans (remove_triggers w _)
  · rw [e]
    exact marked

end

/-- What an entry is listed by: all of it but its acknowledgement and its chime. -/
def listing (e : WarnEntry) : Fin 56 × WarnClass × Nat × Bool := (e.defn, e.cls, e.number, e.present)

theorem markAcked_listing (w : Fin 56) (m : WarningManager) : (markAcked w m).active.map listing = m.active.map listing := by
  have kept : ∀ e : WarnEntry, listing (if e.defn = w then { e with acked := true } else e) = listing e := by
    intro e
    split <;> rfl
  exact (List.map_map).trans (List.map_congr_left (fun e _ => kept e))

/-! The closing steps (R103). -/

/-- What the closing steps may write: the warnings, the outputs and the topic flags of the links. -/
structure Closes (s t : State) : Prop where
  rest : t.offLinks = { s with warn := t.warn, out := t.out }.offLinks
  traffic : ∀ k, (t.link k).traffic = (s.link k).traffic

theorem Closes.refl (s : State) : Closes s s := ⟨rfl, fun _ => rfl⟩

theorem Closes.trans {s t u : State} (h : Closes s t) (k : Closes t u) : Closes s u :=
  ⟨k.rest.trans (congrArg (fun x : State => { x with warn := u.warn, out := u.out }) h.rest),
    fun l => (k.traffic l).trans (h.traffic l)⟩

theorem Closes.of_eq {s t : State} (h : t = { s with warn := t.warn, out := t.out }) : Closes s t :=
  ⟨congrArg State.offLinks h, fun k => by rw [h]; rfl⟩

theorem modWarn_closes (f : WarningManager → WarningManager) (s : State) : Closes s (s.modWarn f) := .of_eq rfl

theorem raiseTopic_closes (t : Topic) (s : State) : Closes s (raiseTopic t s) := ⟨rfl, (raiseTopic_filed t s).traffic⟩

/-- No item that the closing steps leave alone moves. -/
theorem Closes.item {α : Type} {s t : State} (h : Closes s t) (p : State → α)
    (hp : ∀ (u : State) (m : WarningManager) (o : OutputUnit), p ({ u with warn := m, out := o }.offLinks) = p u) :
    p t = p s := by
  rw [← hp s t.warn t.out, ← h.rest]
  exact (hp t t.warn t.out).symm

theorem Closes.parkConditions {s t : State} (h : Closes s t) : t.parkConditions = s.parkConditions :=
  h.item State.parkConditions (fun _ _ _ => rfl)

theorem setWarnStanding_eq (d : Option ChimePattern) (s : State) :
    setWarnStanding d s = { s with out := (setWarnStanding d s).out } := by
  unfold setWarnStanding
  split
  · rfl
  · exact chimeDecide_eq _

theorem deliverShot_eq (p : ChimePattern) (s : State) : deliverShot p s = { s with out := (deliverShot p s).out } := by
  unfold deliverShot
  split
  · rfl
  · exact chimeDecide_eq _

theorem setWarnStanding_warn (d : Option ChimePattern) (s : State) : (setWarnStanding d s).warn = s.warn := by
  rw [setWarnStanding_eq]

theorem deliverShot_warn (p : ChimePattern) (s : State) : (deliverShot p s).warn = s.warn := by
  rw [deliverShot_eq]

theorem setWarnStanding_closes (d : Option ChimePattern) (s : State) : Closes s (setWarnStanding d s) := by
  rw [setWarnStanding_eq]
  exact .of_eq rfl

theorem deliverShot_closes (p : ChimePattern) (s : State) : Closes s (deliverShot p s) := by
  rw [deliverShot_eq]
  exact .of_eq rfl

theorem closeChime_closes (s : State) : Closes s (closeChime s) := by
  unfold closeChime
  dsimp only
  split
  · exact (setWarnStanding_closes _ s).trans ((modWarn_closes _ _).trans (deliverShot_closes _ _))
  · exact setWarnStanding_closes _ s

theorem closeTelltales_closes (s : State) : Closes s (closeTelltales s) := by
  unfold closeTelltales
  dsimp only
  split
  · exact .refl s
  · exact .of_eq rfl

/-- R123: the manager with its presented entry chosen. -/
def choosePresented (m : WarningManager) : WarningManager := { m with presented := m.toPresent.map (fun e => e.defn) }

/-- R103: the closing steps ahead of the WARNINGS topic. -/
def closingEffect (s : State) : State := closeTelltales (closeChime (s.modWarn choosePresented))

theorem closingSteps_cases (s0 s : State) :
    closingSteps s0 s = closingEffect s ∨ closingSteps s0 s = raiseTopic .warnings (closingEffect s) := by
  by_cases same : (closingEffect s).warnItems = s0.warnItems
  · exact .inl (if_pos same)
  · exact .inr (if_neg same)

theorem closingEffect_closes (s : State) : Closes s (closingEffect s) :=
  (modWarn_closes choosePresented s).trans ((closeChime_closes _).trans (closeTelltales_closes _))

theorem closingSteps_closes (s0 s : State) : Closes s (closingSteps s0 s) := by
  rcases closingSteps_cases s0 s with e | e
  · rw [e]
    exact closingEffect_closes s
  · rw [e]
    exact (closingEffect_closes s).trans (raiseTopic_closes _ _)

/-- R125: an entry whose chime is given once. -/
def markChimed (w : Fin 56) (m : WarningManager) : WarningManager := m.modEntry w (fun e => { e with chimed := true })

/-- R125: of the manager, the chime demands write the presented entry's mark alone. -/
theorem closeChime_warn (s : State) : (closeChime s).warn = s.warn ∨
    ∃ x, s.warn.toPresent = some x ∧ (closeChime s).warn = markChimed x.defn s.warn := by
  unfold closeChime
  dsimp only
  split
  · next x p presented _ =>
    refine .inr ⟨x, presented, ?_⟩
    rw [deliverShot_warn, State.modWarn_warn, setWarnStanding_warn]
    rfl
  · exact .inl (setWarnStanding_warn _ s)

theorem closeTelltales_warn (s : State) : (closeTelltales s).warn = { s.warn with telltale := s.warn.telltales } := by
  unfold closeTelltales
  dsimp only
  split
  · next same => rw [same]
  · rfl

theorem closingSteps_warn (s0 s : State) : (closingSteps s0 s).warn =
    { (closeChime (s.modWarn choosePresented)).warn with telltale := (closeChime (s.modWarn choosePresented)).warn.telltales } := by
  rw [← closeTelltales_warn]
  rcases closingSteps_cases s0 s with e | e
  · rw [e, closingEffect]
  · rw [e, raiseTopic_warn, closingEffect]

theorem markChimed_besideChime (w : Fin 56) (es : List WarnEntry) :
    (es.map (fun e => if e.defn = w then { e with chimed := true } else e)).map (WarnEntry.besideChime (some w)) =
      es.map (WarnEntry.besideChime (some w)) := by
  have kept : ∀ e : WarnEntry, WarnEntry.besideChime (some w) (if e.defn = w then { e with chimed := true } else e) =
      WarnEntry.besideChime (some w) e := by
    intro e
    unfold WarnEntry.besideChime
    split
    · next h => simp [h]
    · rfl
  exact (List.map_map).trans (List.map_congr_left (fun e _ => kept e))

/-- R125: the closing steps keep every entry, but for the presented one's chime. -/
theorem closingSteps_entries (s0 s : State) : SameEntries (closingSteps s0 s).warn s.warn := by
  rw [closingSteps_warn]
  rcases closeChime_warn (s.modWarn choosePresented) with same | ⟨x, presented, chimed⟩
  · rw [same]
    exact ⟨rfl, rfl, rfl⟩
  · have shown : (markChimed x.defn (choosePresented s.warn)).presented = some x.defn :=
      congrArg (Option.map (fun e : WarnEntry => e.defn)) presented
    rw [chimed, State.modWarn_warn]
    unfold SameEntries
    dsimp only
    rw [shown]
    exact ⟨markChimed_besideChime x.defn s.warn.active, markChimed_besideChime x.defn s.warn.queue, rfl⟩

theorem closingSteps_triggers (s0 s : State) : SameTriggers s.warn (closingSteps s0 s).warn := by
  rw [closingSteps_warn]
  rcases closeChime_warn (s.modWarn choosePresented) with e | ⟨x, -, e⟩
  · rw [e]
    exact ⟨rfl, rfl, rfl, rfl, rfl⟩
  · rw [e]
    exact ⟨rfl, rfl, rfl, rfl, rfl⟩

section
variable (p : Option (Fin 56)) (e : WarnEntry)

theorem besideChime_defn : (e.besideChime p).defn = e.defn := by
  unfold WarnEntry.besideChime
  split <;> rfl

theorem besideChime_acked : (e.besideChime p).acked = e.acked := by
  unfold WarnEntry.besideChime
  split <;> rfl

theorem besideChime_listing : listing (e.besideChime p) = listing e := by
  unfold WarnEntry.besideChime
  split <;> rfl

end

/-- The entries of two managers that differ in a chime alone. -/
theorem sameEntries_mem {m n : WarningManager} (h : SameEntries m n) {e : WarnEntry} (he : e ∈ m.active ++ m.queue) :
    ∃ x ∈ n.active ++ n.queue, x.defn = e.defn ∧ x.acked = e.acked := by
  obtain ⟨active, queue, -⟩ := h
  have same : (n.active ++ n.queue).map (WarnEntry.besideChime m.presented) =
      (m.active ++ m.queue).map (WarnEntry.besideChime m.presented) := by
    rw [List.map_append, List.map_append, active, queue]
  have found := List.mem_map_of_mem (f := WarnEntry.besideChime m.presented) he
  rw [← same] at found
  obtain ⟨x, hx, eq⟩ := List.mem_map.1 found
  refine ⟨x, hx, ?_, ?_⟩
  · rw [← besideChime_defn m.presented x, eq, besideChime_defn]
  · rw [← besideChime_acked m.presented x, eq, besideChime_acked]

theorem sameEntries_listing {m n : WarningManager} (h : SameEntries m n) : m.active.map listing = n.active.map listing := by
  have beside : ∀ es : List WarnEntry, (es.map (WarnEntry.besideChime m.presented)).map listing = es.map listing :=
    fun es => (List.map_map).trans (List.map_congr_left (fun e _ => besideChime_listing m.presented e))
  rw [← beside, h.1, beside]

/-! WARN_ACK. -/

theorem warnAck_admitted {tag index : Byte} {s : State} (h : Admits .display s) :
    exec (.warnAck .display tag index) s =
      .next (finish s (placeAnswer .display 0x25#8 tag (serveWarnAck index (s.heard .display)))) :=
  congrArg _ (onRequest_admitted h rfl rfl (fun e => nomatch e))

/-- R124: the part after an acknowledgement. -/
def ackWarning (w : Fin 56) (s : State) : State := closingSteps s (s.modWarn (ackEntry w))

theorem serveWarnAck_badArg {index : Byte} (s : State) (h : 55 < index.toNat) : serveWarnAck index s = refuse .badArg s :=
  if_pos h

section
variable {index : Byte} {s : State} (h : index.toNat ≤ 55)
include h

theorem serveWarnAck_idle (hp : s.warn.presented = none) :
    serveWarnAck index s = answerNow .staleAck [0xFF#8] s := by
  unfold serveWarnAck
  rw [if_neg (Nat.not_lt.2 h), hp]
  rfl

theorem serveWarnAck_eq {w : Fin 56} (hp : s.warn.presented = some w) : serveWarnAck index s =
    if w.val = index.toNat then answerNow .ok [] (ackWarning w s) else answerNow .staleAck [byte1 w.val] s := by
  unfold serveWarnAck
  rw [if_neg (Nat.not_lt.2 h), hp]
  rfl

end

section
variable (w : Fin 56) (s : State)

theorem ackWarning_closes : Closes s (ackWarning w s) :=
  (modWarn_closes (ackEntry w) s).trans (closingSteps_closes s _)

theorem ackWarning_entries : SameEntries (ackWarning w s).warn (ackEntry w s.warn) := closingSteps_entries s _

theorem ackWarning_triggers : SameTriggers s.warn (ackWarning w s).warn :=
  (ackEntry_triggers w s.warn).trans (closingSteps_triggers s (s.modWarn (ackEntry w)))

theorem ackWarning_acked : ∀ e ∈ (ackWarning w s).warn.active ++ (ackWarning w s).warn.queue, e.defn = w → e.acked = true := by
  intro e he hw
  obtain ⟨x, hx, defn, acked⟩ := sameEntries_mem (ackWarning_entries w s) he
  rw [← acked]
  exact ackEntry_acked hx (defn.trans hw)

theorem ackWarning_removes (gone : ∃ e ∈ s.warn.active, e.defn = w ∧ e.present = false) :
    ∀ e ∈ (ackWarning w s).warn.active ++ (ackWarning w s).warn.queue, e.defn ≠ w := by
  intro e he
  obtain ⟨x, hx, defn, -⟩ := sameEntries_mem (ackWarning_entries w s) he
  rw [ackEntry_gone gone] at hx
  rw [← defn]
  exact remove_defn hx

theorem ackWarning_listing (there : ∀ e ∈ s.warn.active, e.defn = w → e.present = true) :
    (ackWarning w s).warn.active.map listing = s.warn.active.map listing := by
  rw [sameEntries_listing (ackWarning_entries w s), ackEntry_present there, markAcked_listing]

end

/-- Settles O55: each owner refuses in the order of its rule, or acknowledges the presented entry or the release. -/
theorem acknowledgementsAreTaken : Obligations.AcknowledgementsAreTaken := by
  intro tag index s adm
  refine ⟨fun beyond => ?_, fun within idle => ?_, fun w within shown other => ?_, fun w shown named => ?_,
    fun beyond => ?_, fun d named => ⟨fun idle => ?_, fun settled enabled owed kept hkept => ?_⟩⟩
  · exact repliesWith_congr (request_refused (warnAck_admitted adm) (serveWarnAck_badArg _ beyond)) rfl
  · exact repliesWith_congr
      (request_answered (warnAck_admitted adm) (serveWarnAck_idle within (by rwa [heard_warn])) rfl rfl) rfl
  · have stale : serveWarnAck index (s.heard .display) = answerNow .staleAck [byte1 w.val] (s.heard .display) := by
      rw [serveWarnAck_eq within (by rwa [heard_warn]), if_neg other]
    exact repliesWith_congr (request_answered (warnAck_admitted adm) stale rfl rfl) rfl
  · have taken : serveWarnAck index (s.heard .display) = answerNow .ok [] (ackWarning w (s.heard .display)) := by
      rw [serveWarnAck_eq (by omega) (by rwa [heard_warn]), if_pos named]
    have closes := ackWarning_closes w (s.heard .display)
    have same := ackWarning_triggers w (s.heard .display)
    refine ⟨_, request_served (warnAck_admitted adm) taken closes.traffic (.inl closes.parkConditions), ?_⟩
    exact ⟨ackWarning_acked w _, ackWarning_removes w (s.heard .display), ackWarning_listing w (s.heard .display),
      same.trigger, same.defs, same.map, same.fedFlag, same.marker, closes.rest⟩
  · exact repliesWith_congr (request_refused (releaseAck_admitted adm) (serveReleaseAck_badArg _ beyond)) rfl
  · exact repliesWith_congr (request_refused (releaseAck_admitted adm)
      (serveReleaseAck_refuses named (by rwa [heard_doors]))) rfl
  · have taken := serveReleaseAck_acknowledges (s := s.heard .display) named enabled owed
    generalize hp : (if s.doors.door[d].phase = .pulled then ReleasePhase.acked else .none) = phase
    have beside := acknowledgeAt_beside d phase (s.heard .display)
    refine ⟨acknowledgeAt d phase (s.heard .display), request_served (releaseAck_admitted adm) (hp ▸ taken)
      (acknowledgeAt_traffic d phase _) (.inr ⟨settled, beside⟩), ?_, fun k hk => ?_, fun k => ⟨?_, ?_⟩, ?_⟩
    · rw [acknowledgeAt_phase, hkept, if_pos (c := d = d) rfl]
      rfl
    · rw [acknowledgeAt_phase, hkept, if_neg (Ne.symm hk)]
      rfl
    · exact acknowledgeAt_sense d k phase _
    · exact acknowledgeAt_resense d k phase _
    · have working := road_working (acknowledgeAt_road d phase (s.heard .display))
      exact ⟨beside.sig, beside.power, beside.gauges, beside.warn, beside.svc, working, acknowledgeAt_eeprom d phase _⟩

end Sys2Proof.Machine.Doorways
end

section
/-!
SUPPORT. The demand evaluation beside what it does not read (R132), and lamp records changed under it.
-/

namespace Sys2Proof.Machine.Lamps
open RoadSpeed Doorways

/-- Two states alike in all that a demand evaluation reads. -/
structure SameReads (s t : State) : Prop where
  sig : t.sig = s.sig
  doors : t.doors = s.doors
  forces : t.svc.forces = s.svc.forces
  overrides : t.svc.overrides = s.svc.overrides
  power : t.power = s.power
  out : t.out = s.out

section
variable {s t : State} (h : SameReads s t)
include h

theorem SameReads.overrideOf (o : OutputId) : t.overrideOf o = s.overrideOf o := by
  simp only [State.overrideOf, h.overrides]

theorem SameReads.roleOn (r : Role) : t.roleOn r = s.roleOn r := by
  simp only [State.roleOn, State.role, State.holder, State.handed, State.forcedValue, h.sig, h.forces]

theorem SameReads.driveOf (l : Fin 16) : t.driveOf l = s.driveOf l := by
  simp only [State.driveOf, State.combined, h.overrideOf, h.out, h.doors]

theorem SameReads.interlock (o : OutputId) (demand : Bool) : t.interlock o demand = s.interlock o demand := by
  simp only [State.interlock, h.overrideOf]

/-- R132: the outputs of an evaluation are a function of what it reads. -/
theorem SameReads.outputEval : (outputEval t).out = (outputEval s).out := by
  simp only [Machine.outputEval, h.out, h.doors, h.power, h.roleOn, h.driveOf, h.interlock]

end

/-- R132: an evaluation writes the outputs alone. -/
theorem outputEval_eq (s : State) : outputEval s = { s with out := (outputEval s).out } := rfl

theorem filed_reads {s t : State} (h : Filed s t) : SameReads s t where
  sig := congrArg State.sig (a₁ := t.offFiling) (a₂ := s.offFiling) h.rest
  doors := congrArg State.doors (a₁ := t.offFiling) (a₂ := s.offFiling) h.rest
  forces := congrArg (fun u => u.svc.forces) (a₁ := t.offFiling) (a₂ := s.offFiling) h.rest
  overrides := congrArg (fun u => u.svc.overrides) (a₁ := t.offFiling) (a₂ := s.offFiling) h.rest
  power := congrArg State.power (a₁ := t.offFiling) (a₂ := s.offFiling) h.rest
  out := congrArg State.out (a₁ := t.offFiling) (a₂ := s.offFiling) h.rest

theorem withOut_filed (o : OutputUnit) {s t : State} (h : Filed s t) : Filed { s with out := o } { t with out := o } :=
  ⟨congrArg (fun u => { u with out := o }) h.rest, h.traffic⟩

/-- R132: an evaluation reads nothing that filing moves. -/
theorem outputEval_filed {s t : State} (h : Filed s t) : Filed (outputEval s) (outputEval t) := by
  rw [outputEval_eq s, outputEval_eq t, (filed_reads h).outputEval]
  exact withOut_filed _ h

/-- The part with other lamp records. -/
def withLamps (v : Vector Lamp 16) (s : State) : State := { s with out := { s.out with lamp := v } }

theorem withLamps_out (v : Vector Lamp 16) (s : State) : (withLamps v s).out = { s.out with lamp := v } := rfl

theorem withLamps_filed (v : Vector Lamp 16) {s t : State} (h : Filed s t) : Filed (withLamps v s) (withLamps v t) :=
  ⟨congrArg (withLamps v) h.rest, h.traffic⟩

/-- Two lamp records with the same function, demands, drive and flash. -/
structure SameDrive (L M : Lamp) : Prop where
  fn : M.fn = L.fn
  warnDemand : M.warnDemand = L.warnDemand
  displayDemand : M.displayDemand = L.displayDemand
  drive : M.drive = L.drive
  half : M.half = L.half

theorem SameDrive.refl (L : Lamp) : SameDrive L L := ⟨rfl, rfl, rfl, rfl, rfl⟩

/-- A record that takes its drive again as another one that keeps it. -/
theorem SameDrive.take {L M : Lamp} {d : Drive} (h : SameDrive L M) (kept : L.take d = L) : M.take d = M := by
  have drive : d = L.drive := congrArg Lamp.drive kept
  have half : (if d = .flash ∧ L.drive = .flash then L.half else { driven := true, elapsed := 0 }) = L.half :=
    congrArg Lamp.half kept
  unfold Lamp.take
  rw [h.drive, h.half, half, drive, ← h.drive, ← h.half]

theorem driveOf_withLamps {v : Vector Lamp 16} {s : State} {l : Fin 16} (h : SameDrive s.out.lamp[l] v[l]) :
    (withLamps v s).driveOf l = s.driveOf l := by
  have combined : (withLamps v s).combined l = s.combined l := by
    unfold State.combined withLamps
    simp only [h.fn, h.warnDemand, h.displayDemand]
  unfold State.driveOf
  rw [combined]
  rfl

/-- R132: an evaluated part stays evaluated where no lamp's demands and drive are touched. -/
theorem withLamps_evaluated {v : Vector Lamp 16} {s : State} (evaluated : outputEval s = s)
    (h : ∀ l : Fin 16, SameDrive s.out.lamp[l] v[l]) : outputEval (withLamps v s) = withLamps v s := by
  have taken : updAll v (fun l L => L.take ((withLamps v s).driveOf l)) = v := by
    refine Vector.ext fun i hi => ?_
    have kept : (outputEval s).out.lamp[(⟨i, hi⟩ : Fin 16)] = s.out.lamp[(⟨i, hi⟩ : Fin 16)] := by rw [evaluated]
    rw [updAll_getElem, driveOf_withLamps (h ⟨i, hi⟩)]
    exact (h ⟨i, hi⟩).take (by simpa [outputEval] using kept)
  have split : outputEval (withLamps v s) =
      withLamps (updAll v (fun l L => L.take ((withLamps v s).driveOf l))) (outputEval s) := rfl
  rw [split, taken, evaluated]

section
variable {s : State} {l : Fin 16}

theorem modLamp_const (f : Lamp → Lamp) : s.modLamp l f = s.modLamp l (fun _ => f s.out.lamp[l]) := rfl

theorem modLamp_same {f : Lamp → Lamp} (h : f s.out.lamp[l] = s.out.lamp[l]) : s.modLamp l f = s := by
  have same : upd s.out.lamp l f = s.out.lamp :=
    (congrArg (fun L => s.out.lamp.set l L) h).trans (Vector.set_getElem_self _)
  unfold State.modLamp
  rw [same]

theorem modLamp_evaluated {f : Lamp → Lamp} (evaluated : outputEval s = s) (h : ∀ L, SameDrive L (f L)) :
    outputEval (s.modLamp l f) = s.modLamp l f := by
  refine withLamps_evaluated evaluated fun k => ?_
  rw [Fin.getElem_fin, Fin.getElem_fin, upd_getElem]
  split
  · next e =>
    obtain rfl : l = k := Fin.ext e
    exact h _
  · exact .refl _

end

/-! Events of the running part. -/

theorem whenAwake_guarded {g : State → Bool} {f : State → State} {s : State} (h : g s = true) :
    whenAwake (guarded g f) s = whenAwake f s := by
  simp only [whenAwake, guarded_pos h]

/-- An event that leaves the links and the parking conditions as they were. -/
theorem does_exactly {c : Instr} {s u : State} {f : State → State} (hx : exec c s = .next (whenAwake f s))
    (awake : s.awake = true) (hf : f s = u) (hl : u.links = s.links) (hp : u.parkConditions = s.parkConditions) :
    Does c s u := by
  subst hf
  exact does_of hx awake rfl (fun k => by rw [State.link, hl, State.link]) (.inl hp)

/-- An event whose effect files a notice after what it does to the outputs. -/
theorem event_files {c : Instr} {s v : State} {f : State → State} (hx : exec c s = .next (whenAwake f s))
    (awake : s.awake = true) (settled : ModeSettled s) (filed : Filed v (f s)) (hl : v.links = s.links)
    (beside : Beside s (f s)) : ∃ t, exec c s = .next t ∧ SameTraffic s t ∧ t.offFiling = v.offFiling := by
  obtain ⟨t, next, traffic, left⟩ := does_of hx awake rfl
    (fun k => (filed.traffic k).trans (by rw [State.link, hl, State.link]))
    (.inr (settled.congr beside.power beside.cfgState))
  refine ⟨t, next, traffic, ?_⟩
  rw [← offFiling_offLinks, left, offFiling_offLinks, filed.rest]

end Sys2Proof.Machine.Lamps
end

section
/-!
SUPPORT. Trips, retries, proofs and open-state changes of a lamp (R138, R139, R141).
-/

namespace Sys2Proof.Machine.Lamps
open RoadSpeed Doorways

/-! What each makes of a lamp's record. -/

section
variable (L : Lamp)

theorem trip_sameDrive : SameDrive L L.trip := by
  unfold Lamp.trip
  split <;> exact ⟨rfl, rfl, rfl, rfl, rfl⟩

theorem retryNow_sameDrive : SameDrive L L.retryNow := ⟨rfl, rfl, rfl, rfl, rfl⟩
theorem proven_sameDrive : SameDrive L L.proven := ⟨rfl, rfl, rfl, rfl, rfl⟩

end

section
variable {L : Lamp}

theorem trip_normal (h : L.protection = .normal) :
    L.trip = { L with protection := .shutdown, retry := 0, wait := some 0, ocCount := L.tripAt } := by
  unfold Lamp.trip
  rw [h]

/-- R138: the trip of a retry; the third retry's is final. -/
theorem trip_retry (h : L.protection = .retry) :
    L.trip = { L with protection := .shutdown, wait := if L.retry < 3 then some 0 else none, ocCount := L.tripAt } := by
  have wait : (if L.retry ≥ 3 then none else some 0) = if L.retry < 3 then some 0 else none := by
    by_cases again : L.retry < 3
    · rw [if_neg (Nat.not_le.2 again), if_pos again]
    · rw [if_pos (Nat.not_lt.1 again), if_neg again]
  unfold Lamp.trip
  rw [h, wait]

end

/-! What each makes of the part, apart from the notice it files. -/

section
variable (l : Fin 16) (s : State)

theorem tripLamp_filed : Filed (s.modLamp l Lamp.trip) (tripLamp l s) := by
  unfold tripLamp
  dsimp only
  split
  · exact faultPresent_filed _ _ _
  · exact .refl _

theorem proveLamp_filed : Filed (s.modLamp l Lamp.proven) (proveLamp l s) := faultCleared_filed _ _

theorem flipOpenLamp_filed : Filed (s.modLamp l Lamp.flipOpen) (flipOpenLamp l s) := by
  unfold flipOpenLamp
  dsimp only
  split
  · exact faultCleared_filed _ _
  · exact faultPresent_filed _ _ _

end

/-- R138: a trip outside NORMAL files no notice. -/
theorem tripLamp_unfiled {l : Fin 16} {s : State} (h : s.out.lamp[l].protection ≠ .normal) :
    tripLamp l s = s.modLamp l Lamp.trip := if_neg h

/-! The events at their last counts, and the expiry of a wait. -/

section
variable {l : Fin 16} {s : State}

theorem overcurrentTrip_due (on : s.energised l = true) (count : s.out.lamp[l].tripAt ≤ s.out.lamp[l].ocCount + 1) :
    exec (.overcurrentTrip l) s = .next (whenAwake (fun t => outputEval (tripLamp l t)) s) :=
  congrArg _ (whenAwake_guarded (by simpa using And.intro on count))

theorem retryWaitExpiry_due (down : s.out.lamp[l].protection = .shutdown) (waits : s.out.lamp[l].wait.isSome = true) :
    exec (.retryWaitExpiry l) s = .next (whenAwake (fun t => outputEval (t.modLamp l Lamp.retryNow)) s) :=
  congrArg _ (whenAwake_guarded (by simpa using And.intro waits down))

theorem retryProof_due (on : s.energised l = true) (retry : s.out.lamp[l].protection = .retry)
    (proof : 499 ≤ s.out.lamp[l].proof) :
    exec (.retryProof l) s = .next (whenAwake (fun t => outputEval (proveLamp l t)) s) :=
  congrArg _ (whenAwake_guarded (by simpa using And.intro (And.intro on retry) proof))

theorem openStateChange_due (low : l.val < 12) (on : s.energised l = true) (mode : s.power.mode ≠ .crank)
    (count : 49 ≤ s.out.lamp[l].openCount) (counts : s.out.lamp[l].openState = true ∨ 0 < s.out.lamp[l].openLevel) :
    exec (.openStateChange l) s = .next (whenAwake (flipOpenLamp l) s) := by
  have due : s.openOneShort l = true := by
    simpa [State.openOneShort] using And.intro (And.intro (And.intro (And.intro low on) mode) count) counts
  exact congrArg _ (whenAwake_guarded due)

end

/-- Settles O43: each event is at its last count, and what it makes of the lamp's record leaves the evaluated outputs as they
are; a notice is filed after it. -/
theorem tripsAndRetriesFollowTheTable : Obligations.TripsAndRetriesFollowTheTable := by
  intro l L s awake settled evaluated hL
  subst hL
  refine ⟨fun on count => ⟨fun normal => ?_, fun retry => ?_⟩, fun down waits => ?_, fun on retry proof => ?_,
    fun low on mode count counts => ?_⟩
  · rw [← trip_normal normal, ← modLamp_const]
    have filed := outputEval_filed (tripLamp_filed l s)
    rw [modLamp_evaluated evaluated trip_sameDrive] at filed
    exact event_files (overcurrentTrip_due on count) awake settled filed rfl
      ((tripLamp_beside l s).trans (outputEval_beside _))
  · rw [← trip_retry retry, ← modLamp_const]
    have unfiled : tripLamp l s = s.modLamp l Lamp.trip :=
      tripLamp_unfiled (fun normal => nomatch retry.symm.trans normal)
    refine does_exactly (overcurrentTrip_due on count) awake ?_ rfl rfl
    rw [unfiled, modLamp_evaluated evaluated trip_sameDrive]
  · exact does_exactly (retryWaitExpiry_due down waits) awake (modLamp_evaluated evaluated retryNow_sameDrive) rfl rfl
  · have filed := outputEval_filed (proveLamp_filed l s)
    rw [modLamp_evaluated evaluated proven_sameDrive] at filed
    exact event_files (retryProof_due on retry proof) awake settled filed rfl
      ((proveLamp_beside l s).trans (outputEval_beside _))
  · exact event_files (openStateChange_due low on mode count counts) awake settled (flipOpenLamp_filed l s) rfl
      (flipOpenLamp_beside l s)

end Sys2Proof.Machine.Lamps
end

section
/-!
SUPPORT. The flash of a lamp and of the chime (R132, R144), and the chime arbiter's decision at the end of a one-shot (R143).
-/

namespace Sys2Proof.Machine.Lamps
open RoadSpeed

/-- R143: the chime as a one-shot's end leaves it to the arbiter. -/
def silenced (c : Chime) : Chime := { c with playing := .none }

theorem silenced_decide (c : Chime) : (silenced c).decide =
    match c.standing, c.pendingShot with
    | none, none => silenced c
    | none, some q => { c with playing := .oneshot q q.shotLength, pendingShot := none }
    | some p, none => { c with playing := .standing p 0 }
    | some p, some q =>
      if q = p then { c with playing := .standing p 0, pendingShot := none }
      else if q.rank < p.rank then { c with playing := .oneshot q q.shotLength, pendingShot := none }
      else { c with playing := .standing p 0 } := rfl

/-! The arbiter's decision from silence, by what is pending and what stands. -/

section
variable {c : Chime}

/-- R143: the Doorway Monitor's demand is above the Warning Manager's. -/
theorem standing_door (h : c.doorStanding = true) : c.standing = some .repeatFast := if_pos h

theorem standing_warn (h : c.doorStanding = false) : c.standing = c.warnStanding := if_neg (by simp [h])

theorem decide_silent (stands : c.standing = none) (pends : c.pendingShot = none) :
    (silenced c).decide = silenced c := by
  simp only [silenced_decide, stands, pends]

theorem decide_shot {q : ChimePattern} (stands : c.standing = none) (pends : c.pendingShot = some q) :
    (silenced c).decide = { c with playing := .oneshot q q.shotLength, pendingShot := none } := by
  simp only [silenced_decide, stands, pends]

theorem decide_standing {d : ChimePattern} (stands : c.standing = some d) (pends : c.pendingShot = none) :
    (silenced c).decide = { c with playing := .standing d 0 } := by
  simp only [silenced_decide, stands, pends]

/-- R143: a pending one-shot beside a standing demand. -/
theorem decide_both {d q : ChimePattern} (stands : c.standing = some d) (pends : c.pendingShot = some q) :
    (silenced c).decide =
      if q = d then { c with playing := .standing d 0, pendingShot := none }
      else if q.rank < d.rank then { c with playing := .oneshot q q.shotLength, pendingShot := none }
      else { c with playing := .standing d 0 } := by
  simp only [silenced_decide, stands, pends]

end

theorem chimeDecide_free {s : State} (free : s.overrideOf .chime = none) (ended : s.out.chime.playing.isShot = false) :
    chimeDecide s = s.modChime Chime.decide :=
  if_neg (by simp [State.chimeOverridden, free, ended])

/-- R143: CHIME_ONESHOT_END is the arbiter's decision from silence. -/
theorem chimeOneshotEnd_does {s : State} {p : ChimePattern} {n : Nat} {f : Chime → Chime} (awake : s.awake = true)
    (plays : s.out.chime.playing = .oneshot p n) (free : s.overrideOf .chime = none)
    (decides : (silenced s.out.chime).decide = f s.out.chime) : Does .chimeOneshotEnd s (s.modChime f) := by
  have due : exec .chimeOneshotEnd s = .next (whenAwake (fun t => chimeDecide (t.modChime silenced)) s) :=
    congrArg _ (whenAwake_guarded (by rw [plays]; rfl))
  have effect : chimeDecide (s.modChime silenced) = s.modChime f := by
    have decided : chimeDecide (s.modChime silenced) = (s.modChime silenced).modChime Chime.decide :=
      chimeDecide_free free rfl
    rw [decided]
    exact congrArg (fun c => s.modChime (fun _ => c)) decides
  exact does_exactly due awake effect rfl rfl

/-- R132, R144: the other half of a flash, at its beginning. -/
def turned (h : FlashHalf) : FlashHalf := { driven := !h.driven, elapsed := 0 }

theorem flashHalfToggle_lamp {l : Fin 16} {s : State} (flashes : s.out.lamp[l].drive = .flash) :
    exec (.flashHalfToggle (.lamp l)) s =
      .next (whenAwake (fun t => t.modLamp l (fun L => { L with half := turned L.half })) s) :=
  congrArg _ (whenAwake_guarded (g := fun t => t.out.lamp[l].drive == .flash) (by rw [flashes]; rfl))

theorem flashHalfToggle_chime {s : State} (flashes : s.overrideOf .chime = some .flash) :
    exec (.flashHalfToggle .chime) s =
      .next (whenAwake (fun t => t.modChime (fun c => { c with half := turned c.half })) s) :=
  congrArg _ (whenAwake_guarded (g := fun t => t.overrideOf .chime == some .flash) (by rw [flashes]; rfl))

/-- Settles O44: a flash turns its half; the end of a one-shot is the arbiter's decision from silence, by what is pending and
what stands. -/
theorem flashAndChimeEventsTurn : Obligations.FlashAndChimeEventsTurn := by
  intro s awake
  refine ⟨fun l flashes => ?_, fun flashes => ?_, fun p n plays free => ?_⟩
  · exact does_exactly (flashHalfToggle_lamp flashes) awake rfl rfl rfl
  · exact does_exactly (flashHalfToggle_chime flashes) awake rfl rfl rfl
  · refine ⟨fun door warn pends => ?_, fun q door warn pends => ?_, fun door pends => ?_, fun q door warn pends => ?_,
      fun d q pends highest => ?_⟩
    · exact chimeOneshotEnd_does awake plays free (decide_silent ((standing_warn door).trans warn) pends)
    · exact chimeOneshotEnd_does awake plays free (decide_shot ((standing_warn door).trans warn) pends)
    · exact chimeOneshotEnd_does awake plays free (decide_standing (standing_door door) pends)
    · exact chimeOneshotEnd_does awake plays free (decide_standing ((standing_warn door).trans warn) pends)
    · have stands : s.out.chime.standing = some d := by
        split at highest
        · next door => rw [highest, standing_door door]
        · next door => rw [standing_warn (by simpa using door), highest]
      have decision := decide_both stands pends
      refine ⟨fun same => ?_, fun higher => ?_, fun lower => ?_⟩
      · rw [if_pos same] at decision
        exact chimeOneshotEnd_does awake plays free decision
      · have other : q ≠ d := fun same => by simp [same] at higher
        rw [if_neg other, if_pos higher] at decision
        exact chimeOneshotEnd_does awake plays free decision
      · have other : q ≠ d := fun same => by simp [same] at lower
        rw [if_neg other, if_neg (Nat.lt_asymm lower)] at decision
        exact chimeOneshotEnd_does awake plays free decision

end Sys2Proof.Machine.Lamps
end

section
/-!
SUPPORT. LAMP_SET (R135): the entries taken, the tests of the request, and the duty of the lamps (R134).
-/

namespace Sys2Proof.Machine.Lamps
open RoadSpeed

/-! The tests of the entries. -/

theorem hasDuplicate_eq_false {xs : List Nat} : hasDuplicate xs = false ↔ xs.Nodup := by
  induction xs with
  | nil => simp [hasDuplicate]
  | cons x xs ih => simp [hasDuplicate, ih]

/-- The indices of a request's entries are distinct as bytes or as numbers alike. -/
theorem entries_nodup {es : List (Byte × Byte)} :
    (es.map (fun e => e.1.toNat)).Nodup ↔ (es.map (fun e => e.1)).Nodup := by
  have same : ∀ a b : Byte × Byte, a.1.toNat ≠ b.1.toNat ↔ a.1 ≠ b.1 := fun _ _ => not_congr BitVec.toNat_inj
  rw [List.nodup_iff_pairwise_ne, List.nodup_iff_pairwise_ne, List.pairwise_map, List.pairwise_map]
  simp only [same]

theorem isTelltale_iff {s : State} {n : Nat} :
    s.isTelltale n = true ↔ ∃ l : Fin 16, l.val < 12 ∧ n = l.val ∧ s.out.lamp[l].fn = .telltale := by
  unfold State.isTelltale
  constructor
  · intro h
    split at h
    · next low => exact ⟨⟨n, by omega⟩, low, rfl, by simpa using h⟩
    · cases h
  · rintro ⟨l, low, rfl, fn⟩
    rw [dif_pos low]
    simpa using fn

/-- R135: an entry of LAMP_SET names a TELLTALE lamp and sets or clears it. -/
def EntryOk (s : State) (e : Byte × Byte) : Prop := s.isTelltale e.1.toNat = true ∧ e.2.toNat ≤ 1

/-- R135: what the display demands of lamp `l`, as it stands in `L`. -/
def demanded (es : List (Byte × Byte)) (l : Fin 16) (L : Lamp) : Lamp :=
  match es.find? (fun e => decide (e.1.toNat = l.val)) with
  | some e => { L with displayDemand := decide (e.2 = 1#8) }
  | none => L

theorem demanded_named {e : Byte × Byte} {es : List (Byte × Byte)} {l : Fin 16} {L : Lamp} (h : e.1.toNat = l.val) :
    demanded (e :: es) l L = { L with displayDemand := decide (e.2 = 1#8) } := by
  simp [demanded, h]

theorem demanded_other {e : Byte × Byte} {es : List (Byte × Byte)} {l : Fin 16} {L : Lamp} (h : e.1.toNat ≠ l.val) :
    demanded (e :: es) l L = demanded es l L := by
  simp [demanded, h]

theorem demanded_unnamed {es : List (Byte × Byte)} {l : Fin 16} {L : Lamp} (h : l.val ∉ es.map (fun e => e.1.toNat)) :
    demanded es l L = L := by
  have unnamed : es.find? (fun e => decide (e.1.toNat = l.val)) = none := by
    refine List.find?_eq_none.2 fun e he named => h ?_
    exact List.mem_map.2 ⟨e, he, of_decide_eq_true named⟩
  simp only [demanded, unnamed]

theorem lampSetEntry_named {e : Byte × Byte} {s : State} (h : e.1.toNat < 12) : lampSetEntry s e =
    s.modLamp ⟨e.1.toNat, by omega⟩ (fun L => { L with displayDemand := decide (e.2 = 1#8) }) := dif_pos h

/-- R135: entries of distinct lamps, taken one after another, are taken each at its own lamp. -/
theorem lampSetEntries_eq {es : List (Byte × Byte)} {s : State} (low : ∀ e ∈ es, e.1.toNat < 12)
    (nodup : (es.map (fun e => e.1.toNat)).Nodup) :
    es.foldl lampSetEntry s = withLamps (updAll s.out.lamp (demanded es)) s := by
  induction es generalizing s with
  | nil =>
    have same : updAll s.out.lamp (demanded []) = s.out.lamp := Vector.ext fun i hi => by
      rw [updAll_getElem]
      rfl
    rw [same]
    rfl
  | cons e es ih =>
    obtain ⟨fresh, nodup⟩ := List.nodup_cons.1 nodup
    have later : ∀ x ∈ es, x.1.toNat < 12 := fun x hx => low x (List.mem_cons_of_mem e hx)
    rw [List.foldl_cons, lampSetEntry_named (low e List.mem_cons_self), ih later nodup]
    refine congrArg (fun v => withLamps v s) (Vector.ext fun i hi => ?_)
    rw [updAll_getElem, updAll_getElem]
    by_cases own : e.1.toNat = i
    · subst own
      rw [demanded_named rfl, demanded_unnamed fresh]
      exact (upd_getElem _ _ _ _ _).trans (if_pos rfl)
    · rw [demanded_other own]
      exact congrArg (demanded es ⟨i, hi⟩) ((upd_getElem _ _ _ _ _).trans (if_neg own))

/-- R135: the part after a LAMP_SET. -/
def lampsSet (es : List (Byte × Byte)) (s : State) : State := outputEval (withLamps (updAll s.out.lamp (demanded es)) s)

/-- R135: LAMP_SET is refused unless its entries are 1 to 12, each in order, of distinct lamps. -/
theorem serveLampSet_badArg {es : List (Byte × Byte)} {s : State}
    (h : es = [] ∨ 12 < es.length ∨ (∃ e ∈ es, ¬ EntryOk s e) ∨ ¬ (es.map (fun e => e.1)).Nodup) :
    serveLampSet es s = refuse .badArg s := by
  refine if_pos ?_
  rw [Bool.or_eq_true, Bool.or_eq_true, Bool.or_eq_true, or_assoc, or_assoc]
  refine h.imp (fun none => by rw [none]; rfl) (Or.imp decide_eq_true (Or.imp ?_ ?_))
  · rintro ⟨e, he, bad⟩
    refine List.any_eq_true.2 ⟨e, he, ?_⟩
    cases telltale : s.isTelltale e.1.toNat with
    | false => rfl
    | true => exact decide_eq_true (Nat.lt_of_not_le fun bit => bad ⟨telltale, bit⟩)
  · intro twice
    rw [← entries_nodup, ← hasDuplicate_eq_false] at twice
    simpa using twice

theorem serveLampSet_takes {es : List (Byte × Byte)} {s : State} (some1 : es ≠ []) (most : es.length ≤ 12)
    (ok : ∀ e ∈ es, EntryOk s e) (nodup : (es.map (fun e => e.1)).Nodup) :
    serveLampSet es s = answerNow .ok (lampsSet es s).snapshot (lampsSet es s) := by
  have distinct := entries_nodup.2 nodup
  have low : ∀ e ∈ es, e.1.toNat < 12 := fun e he => by
    obtain ⟨l, low, named, -⟩ := isTelltale_iff.1 (ok e he).1
    omega
  have bad : es.any (fun e => !s.isTelltale e.1.toNat || decide (e.2.toNat > 1)) = false := by
    refine List.any_eq_false.2 fun e he => ?_
    obtain ⟨telltale, bit⟩ := ok e he
    simpa [telltale] using bit
  unfold serveLampSet
  rw [bad, hasDuplicate_eq_false.2 distinct, if_neg (by simpa using And.intro some1 most), lampSetEntries_eq low distinct]
  rfl

theorem lampSet_admitted {tag : Byte} {es : List (Byte × Byte)} {s : State} (h : Admits .display s) :
    exec (.lampSet .display tag es) s =
      .next (finish s (placeAnswer .display 0x29#8 tag (serveLampSet es (s.heard .display)))) :=
  congrArg _ (onRequest_admitted h rfl rfl (fun e => nomatch e))

/-! The receiver's step to HUNT, which an accepted frame on the Display Link is, is beside the outputs. -/

section
variable (s : State) (l : LinkId)

theorem heard_display : s.heard .display = s.hunting .display := rfl

theorem hunting_snapshot : (s.hunting l).snapshot = s.snapshot := rfl

theorem withLamps_hunting (v : Vector Lamp 16) : withLamps v (s.hunting l) = (withLamps v s).hunting l := rfl

theorem outputEval_hunting : outputEval (s.hunting l) = (outputEval s).hunting l := by
  have reads : SameReads s (s.hunting l) := ⟨rfl, rfl, rfl, rfl, rfl, rfl⟩
  rw [outputEval_eq (s.hunting l), reads.outputEval, outputEval_eq s]
  generalize (outputEval s).out = o
  rfl

theorem lampsSet_hunting (es : List (Byte × Byte)) : lampsSet es (s.hunting l) = (lampsSet es s).hunting l :=
  (congrArg outputEval (withLamps_hunting s l _)).trans (outputEval_hunting _ l)

/-- R135: a LAMP_SET writes the outputs alone. -/
theorem lampsSet_out (es : List (Byte × Byte)) : ∃ o, lampsSet es s = { s with out := o } := by
  unfold lampsSet
  generalize updAll s.out.lamp (demanded es) = v
  exact ⟨_, outputEval_eq (withLamps v s)⟩

end

/-- An owner on the Display Link that answers at once and writes the outputs alone. -/
theorem request_outputs {c : Instr} {code tag : Byte} {owner : State → Served} {s : State} {o : OutputUnit} {st : Status}
    {fields : List Byte} (hx : exec c s = .next (finish s (placeAnswer .display code tag (owner (s.heard .display)))))
    (hv : owner (s.heard .display) = answerNow st fields ({ s with out := o }.hunting .display)) :
    RepliesWith c .display code tag st fields s { s with out := o } :=
  repliesWith_congr (request_answered hx hv rfl rfl) rfl

/-! The duty of the lamps. -/

theorem outputEval_night (s : State) : (outputEval s).out.night = s.roleOn .headlamp := rfl

theorem outputEval_nightDuty (s : State) : (outputEval s).out.nightDuty = s.out.nightDuty := by
  simp only [outputEval]

/-- R130, R134: what drives a lamp. -/
theorem lampDrive_eq (s : State) (l : Fin 16) : s.lampDrive l =
    if s.energised l = false then 0 else if l.val < 12 ∧ s.out.night = true then s.out.nightDuty else 1000 := by
  unfold State.lampDrive State.duty
  cases s.energised l
  · rfl
  · rfl

theorem withLamps_roleOn (v : Vector Lamp 16) (s : State) (r : Role) : (withLamps v s).roleOn r = s.roleOn r := rfl

/-- R134: the duties after a LAMP_SET. -/
theorem lampsSet_lampDrive (es : List (Byte × Byte)) (s : State) (l : Fin 16) : (lampsSet es s).lampDrive l =
    if (lampsSet es s).energised l = false then 0
    else if l.val < 12 ∧ s.roleOn .headlamp = true then s.out.nightDuty else 1000 := by
  rw [lampDrive_eq, lampsSet, outputEval_night, outputEval_nightDuty, withLamps_roleOn, withLamps_out]

end Sys2Proof.Machine.Lamps
end

section
/-!
SUPPORT. LAMP_RESET (R140).
-/

namespace Sys2Proof.Machine.Lamps
open RoadSpeed Doorways

/-- R140: a lamp's record after its return to NORMAL. -/
def normalised (L : Lamp) : Lamp := if L.protection = .normal then L else L.restored

section
variable {L : Lamp}

theorem normalised_normal (h : L.protection = .normal) : normalised L = L := if_pos h

theorem normalised_down (h : L.protection ≠ .normal) : normalised L = L.restored := if_neg h

end

theorem normalised_protection (L : Lamp) : (normalised L).protection = .normal := by
  unfold normalised
  split
  · assumption
  · rfl

theorem normalised_sameDrive (L : Lamp) : SameDrive L (normalised L) := by
  unfold normalised
  split
  · exact .refl L
  · exact ⟨rfl, rfl, rfl, rfl, rfl⟩

/-- R140: the named lamps returned to NORMAL. -/
def normaliseAll (ls : List (Fin 16)) (v : Vector Lamp 16) : Vector Lamp 16 :=
  updAll v (fun l L => if l ∈ ls then normalised L else L)

theorem normaliseAll_nil (v : Vector Lamp 16) : normaliseAll [] v = v := Vector.ext fun i hi => by
  rw [normaliseAll, updAll_getElem, if_neg List.not_mem_nil]

theorem normaliseAll_cons (l : Fin 16) (ls : List (Fin 16)) (v : Vector Lamp 16) :
    normaliseAll ls (upd v l normalised) = normaliseAll (l :: ls) v := Vector.ext fun i hi => by
  rw [normaliseAll, normaliseAll, updAll_getElem, updAll_getElem, upd_getElem]
  by_cases own : l = ⟨i, hi⟩
  · subst own
    rw [if_pos rfl, if_pos List.mem_cons_self, normalised_normal (normalised_protection _), ite_self]
  · rw [if_neg (fun e => own (Fin.ext e))]
    simp only [List.mem_cons, Ne.symm own, false_or]

theorem restoreLamp_filed (l : Fin 16) (s : State) : Filed (s.modLamp l normalised) (restoreLamp s l) := by
  unfold restoreLamp
  split
  · next normal =>
    rw [modLamp_same (normalised_normal normal)]
    exact .refl s
  · next down =>
    rw [modLamp_const, normalised_down down, ← modLamp_const]
    exact faultCleared_filed _ _

/-! Filing after a change of the lamp records. -/

section
variable {v : Vector Lamp 16} {s t : State} (h : Filed (withLamps v s) t)
include h

theorem withLamps_rest : t.offFiling = { s with out := t.out }.offFiling := by
  rw [(filed_reads h).out]
  exact h.rest

theorem withLamps_traffic (k : LinkId) : (t.link k).traffic = (s.link k).traffic := h.traffic k

end

/-- R140: the lamps returned to NORMAL one after another, each with the notice it files. -/
theorem restoreLamp_foldl_filed (ls : List (Fin 16)) (s : State) :
    Filed (withLamps (normaliseAll ls s.out.lamp) s) (ls.foldl restoreLamp s) := by
  induction ls generalizing s with
  | nil =>
    rw [normaliseAll_nil]
    exact .refl s
  | cons l ls ih =>
    have first := restoreLamp_filed l s
    have rest := ih (restoreLamp s l)
    rw [(filed_reads first).out] at rest
    have both := (withLamps_filed (normaliseAll ls (upd s.out.lamp l normalised)) first).trans rest
    rw [normaliseAll_cons] at both
    exact both

theorem maskBit_eq (mask : Half) (i : Nat) : maskBit mask.toNat i = mask.getLsbD i := by
  rw [BitVec.getLsbD, Nat.testBit_eq_decide_div_mod_eq]
  rfl

theorem mem_lampsToRestore {s : State} {mask : Half} {l : Fin 16} :
    l ∈ s.lampsToRestore mask.toNat ↔ mask.getLsbD l.val = true ∧ s.out.lamp[l].protection ≠ .normal := by
  simp [State.lampsToRestore, maskBit_eq]

/-- R140: the part after a LAMP_RESET. -/
def lampsReset (mask : Half) (s : State) : State := outputEval ((s.lampsToRestore mask.toNat).foldl restoreLamp s)

theorem lampsReset_beside (mask : Half) (s : State) : Beside s (lampsReset mask s) :=
  (Beside.foldl restoreLamp_beside _ s).trans (outputEval_beside _)

/-- R140: the lamps of a mask returned to NORMAL; the outputs were evaluated and stay so. -/
theorem lampsReset_filed {mask : Half} {s : State} (evaluated : outputEval s = s) :
    Filed (withLamps (normaliseAll (s.lampsToRestore mask.toNat) s.out.lamp) s) (lampsReset mask s) := by
  have filed := outputEval_filed (restoreLamp_foldl_filed (s.lampsToRestore mask.toNat) s)
  rwa [withLamps_evaluated evaluated (fun l => ?_)] at filed
  rw [normaliseAll, Fin.getElem_fin, Fin.getElem_fin, updAll_getElem]
  split
  · exact normalised_sameDrive _
  · exact .refl _

theorem heard_reads (s : State) (l : LinkId) : SameReads s (s.heard l) := by
  unfold State.heard resetSilence
  split <;> exact ⟨rfl, rfl, rfl, rfl, rfl, rfl⟩

theorem heard_evaluated {l : LinkId} {s : State} (h : outputEval s = s) : outputEval (s.heard l) = s.heard l := by
  rw [outputEval_eq, (heard_reads s l).outputEval, h, ← (heard_reads s l).out]

theorem heard_lampsToRestore (s : State) (l : LinkId) (mask : Nat) :
    (s.heard l).lampsToRestore mask = s.lampsToRestore mask := by
  simp only [State.lampsToRestore, (heard_reads s l).out]

/-- R140: a LAMP_RESET's record of a lamp. -/
theorem normaliseAll_restored {mask : Half} {s : State} (l : Fin 16) :
    (normaliseAll (s.lampsToRestore mask.toNat) s.out.lamp)[l] =
      if mask.getLsbD l.val = true ∧ s.out.lamp[l].protection ≠ .normal then s.out.lamp[l].restored else s.out.lamp[l] := by
  rw [normaliseAll, Fin.getElem_fin, updAll_getElem]
  by_cases named : l ∈ s.lampsToRestore mask.toNat
  · have due := mem_lampsToRestore.1 named
    rw [if_pos named, if_pos due]
    exact normalised_down due.2
  · rw [if_neg named, if_neg (fun due => named (mem_lampsToRestore.2 due))]
    rfl

theorem serveLampReset_answers (mask : Half) (s : State) : serveLampReset mask s =
    answerNow .ok (put2 (maskOf ((List.finRange 16).map (fun i =>
      mask.getLsbD i.val && decide (s.out.lamp[i].protection ≠ .normal)))) ++ (lampsReset mask s).snapshot)
      (lampsReset mask s) := by
  have named : (fun i => (s.lampsToRestore mask.toNat).contains i) =
      fun i : Fin 16 => mask.getLsbD i.val && decide (s.out.lamp[i].protection ≠ .normal) := by
    funext i
    rw [Bool.eq_iff_iff, List.contains_iff_mem, mem_lampsToRestore, Bool.and_eq_true, decide_eq_true_iff]
  rw [← named]
  rfl

theorem lampReset_admitted {l : LinkId} {tag : Byte} {mask : Half} {s : State} (h : Admits l s) :
    exec (.lampReset l tag mask) s = .next (finish s (placeAnswer l 0x2A#8 tag (serveLampReset mask (s.heard l)))) :=
  congrArg _ (onRequest_admitted h rfl rfl (fun _ e => absurd e (by decide)))

/-- Settles O54: LAMP_SET takes its entries each at its own lamp, or is refused; LAMP_RESET returns the named lamps to NORMAL,
files their notices, and leaves the evaluated outputs as they are. -/
theorem lampRequestsSetAndReset : Obligations.LampRequestsSetAndReset := by
  intro tag s
  refine ⟨fun adm es => ⟨fun some1 most ok nodup u hu => ?_, fun h => ?_⟩, fun l mask adm settled evaluated => ?_⟩
  · have entries : ∀ e ∈ es, EntryOk (s.heard .display) e := fun e he => by
      obtain ⟨bit, named⟩ := ok e he
      exact ⟨isTelltale_iff.2 named, bit⟩
    have set : u = lampsSet es s := hu
    rw [set]
    refine ⟨?_, lampsSet_lampDrive es s⟩
    have served := serveLampSet_takes some1 most entries nodup
    simp only [heard_display, lampsSet_hunting, hunting_snapshot] at served
    obtain ⟨o, written⟩ := lampsSet_out s es
    rw [written] at served ⊢
    exact request_outputs (lampSet_admitted adm) served
  · refine repliesWith_congr (request_refused (lampSet_admitted adm) (serveLampSet_badArg ?_)) rfl
    refine h.imp id (Or.imp id (Or.imp (fun ⟨e, he, bad⟩ => ⟨e, he, fun ok => ?_⟩) id))
    obtain ⟨l, low, named, telltale⟩ := isTelltale_iff.1 ok.1
    rcases bad with bit | high | ⟨k, -, other, fn⟩
    · exact absurd ok.2 (Nat.not_le.2 bit)
    · omega
    · obtain rfl : l = k := Fin.ext (named.symm.trans other)
      exact fn telltale
  · have filed := lampsReset_filed (mask := mask) (heard_evaluated (l := l) evaluated)
    have served := serveLampReset_answers mask (s.heard l)
    rw [(heard_reads s l).out, heard_lampsToRestore] at filed
    rw [(heard_reads s l).out] at served
    have out : (lampsReset mask (s.heard l)).out =
        { s.out with lamp := normaliseAll (s.lampsToRestore mask.toNat) s.out.lamp } := by
      rw [(filed_reads filed).out, withLamps_out, (heard_reads s l).out]
    refine ⟨lampsReset mask (s.heard l), request_served (lampReset_admitted adm) served (withLamps_traffic filed)
      (.inr ⟨settled, lampsReset_beside mask _⟩), ?_, ?_, fun i => ?_⟩
    · exact withLamps_rest filed
    · rw [out]
    · rw [out]
      exact normaliseAll_restored i

end Sys2Proof.Machine.Lamps
end
